-- ==== Sys2Proof/Word.lean ====
section
/-! DEFINITION. The word types of the block: the 64-bit operation word, the 32-bit host word, the 16-bit register
offset and the 12-bit ADC code. -/

namespace Sys2Proof

/-- An operation word (R130: every operation is one 64-bit word). -/
abbrev Word := BitVec 64

/-- The value of one host register (R12, R33: every register is 32 bits wide on the host interface). -/
abbrev HostWord := BitVec 32

/-- The OFFSET operand of RD and WR (R131, R132: an unsigned 16-bit byte offset, taken as is). -/
abbrev Offset := BitVec 16

/-- A raw ADC code (R9 `ADC_BITS = 12`). -/
abbrev AdcCode := BitVec 12

end Sys2Proof
end

