-- ==== Sys2Proof/Syntax.lean ====
section
/-! DEFINITION. The operations of the block: one constructor per row of spec/opcode_table.json (R133, R134). -/

namespace Sys2Proof

/-- What one operation word can ask of the block. -/
inductive Instr where
  /-- RD (R161): read the register at `offset`. -/
  | rd (offset : Offset)
  /-- WR (R162, R172): the generic write, at any offset that no WR_* row names. -/
  | wr (offset : Offset) (data : HostWord)
  /-- WR_CTRL (R163): write CTRL, offset 0x004. -/
  | wrCtrl (data : HostWord)
  /-- WR_STATUS (R166): write STATUS, offset 0x008. -/
  | wrStatus (data : HostWord)
  /-- WR_SETPOINT (R167): write SETPOINT, offset 0x00C. -/
  | wrSetpoint (data : HostWord)
  /-- WR_PWM_PERIOD (R168): write PWM_PERIOD, offset 0x010. -/
  | wrPwmPeriod (data : HostWord)
  /-- WR_STALL_LIMIT (R169): write STALL_LIMIT, offset 0x014. -/
  | wrStallLimit (data : HostWord)
  /-- WR_IRQ_EN (R170): write IRQ_EN, offset 0x018. -/
  | wrIrqEn (data : HostWord)
  /-- WR_IRQ_OVR (R171): write IRQ_OVR, offset 0x020. -/
  | wrIrqOvr (data : HostWord)
  /-- EV_TICK (R330): a master tick with its ADC code. -/
  | evTick (adc : AdcCode)
  /-- EV_PULSE (R333): one edge of the speed sensor. -/
  | evPulse
  /-- EV_BUTTON (R336): one press of the setpoint-reset button. -/
  | evButton
  /-- EV_PT_CLK (R338): one count of the pulse timer. -/
  | evPtClk
  /-- EV_PWM_CLK (R339): one count of the PWM timer. -/
  | evPwmClk
  /-- DSP (R345): one dispatch step. -/
  | dsp
  /-- RST (R400): the reset step. -/
  | rst
deriving DecidableEq, Repr

end Sys2Proof
end

