-- ==== Sys2Proof/WellFormed.lean ====
section
/-! DEFINITION. Which terms of `Instr` are operations of the table. Every operand has the width of its field, so one
check is left: the generic WR row covers only the offsets that no WR_* row names (R134, R135). -/

namespace Sys2Proof

/-- The offsets that have a WR_* row of their own (R134). -/
def writableOffsets : List Offset := [0x004, 0x008, 0x00C, 0x010, 0x014, 0x018, 0x020]

/-- An operation that some operation word spells (R134, R135). -/
def Instr.wellFormed : Instr → Bool
  | .wr offset _ => !writableOffsets.contains offset
  | .rd _ | .wrCtrl _ | .wrStatus _ | .wrSetpoint _ | .wrPwmPeriod _ | .wrStallLimit _ | .wrIrqEn _ | .wrIrqOvr _ => true
  | .evTick _ | .evPulse | .evButton | .evPtClk | .evPwmClk | .dsp | .rst => true

end Sys2Proof
end

