-- ==== Sys2Proof/Decode.lean ====
section
/-! DEFINITION. Operation words: the fields of format OP, the decoder (total; it rejects by name), the encoder, and the
decoder of R135 read straight off spec/opcode_table.json. -/

namespace Sys2Proof

/-! ## Fields of format OP (R131) -/

def kindField (w : Word) : BitVec 8 := w.extractLsb' 56 8
def rsvField (w : Word) : BitVec 8 := w.extractLsb' 48 8
def offsetField (w : Word) : Offset := w.extractLsb' 32 16
def dataField (w : Word) : HostWord := w.extractLsb' 0 32

/-- `adc = DATA[11:0]` of EV_TICK (R132). -/
def adcField (data : HostWord) : AdcCode := data.extractLsb' 0 12

/-- `DATA[31:12]`, which EV_TICK requires to be 0 (R131). -/
def adcReserved (data : HostWord) : BitVec 20 := data.extractLsb' 12 20

/-- The word with the given fields (R131). -/
def opWord (kind : BitVec 8) (offset : Offset) (data : HostWord) : Word :=
  kind ++ (0#8 ++ (offset ++ data))

/-! ## KIND (R133) -/

/-- The nine kinds of operation. -/
inductive Kind where
  | rd | wr | evTick | evPulse | evButton | evPtClk | evPwmClk | dsp | rst
deriving DecidableEq, Repr

/-- KIND values (R133). -/
def Kind.code : Kind → BitVec 8
  | .rd => 0x01
  | .wr => 0x02
  | .evTick => 0x10
  | .evPulse => 0x11
  | .evButton => 0x12
  | .evPtClk => 0x13
  | .evPwmClk => 0x14
  | .dsp => 0x20
  | .rst => 0x3F

def Kind.all : List Kind := [.rd, .wr, .evTick, .evPulse, .evButton, .evPtClk, .evPwmClk, .dsp, .rst]

/-- The kind a KIND value names; every other value spells no operation (R133). -/
def kindOf (code : BitVec 8) : Option Kind := Kind.all.find? (fun k => k.code == code)

/-! ## The decoder (R133-R136) -/

/-- Why a word spells no operation: the five cases of R136. All five are the one exception IllegalOp. -/
inductive Reject where
  /-- R136(a): KIND is none of the nine. -/
  | unknownKind
  /-- R136(b): RSV is not 0. -/
  | reservedNotZero
  /-- R136(c): OFFSET is not 0 and KIND is not RD or WR. -/
  | offsetNotZero
  /-- R136(d): DATA is not 0 and KIND takes no data. -/
  | dataNotZero
  /-- R136(e): DATA[31:12] is not 0 and KIND is EV_TICK. -/
  | adcReservedNotZero
deriving DecidableEq, Repr

/-- WR is split by OFFSET into one operation per writable register (R134). -/
def decodeWr (offset : Offset) (data : HostWord) : Instr :=
  if offset = 0x004 then .wrCtrl data
  else if offset = 0x008 then .wrStatus data
  else if offset = 0x00C then .wrSetpoint data
  else if offset = 0x010 then .wrPwmPeriod data
  else if offset = 0x014 then .wrStallLimit data
  else if offset = 0x018 then .wrIrqEn data
  else if offset = 0x020 then .wrIrqOvr data
  else .wr offset data

/-- An operation whose OFFSET and DATA must both be 0 (R133). -/
def decodeBare (offset : Offset) (data : HostWord) (i : Instr) : Except Reject Instr :=
  if offset ≠ 0 then .error .offsetNotZero else if data ≠ 0 then .error .dataNotZero else .ok i

/-- The operand rules of each KIND (R131, R133, R134). -/
def decodeOperands (offset : Offset) (data : HostWord) : Kind → Except Reject Instr
  | .rd => if data ≠ 0 then .error .dataNotZero else .ok (.rd offset)
  | .wr => .ok (decodeWr offset data)
  | .evTick =>
    if offset ≠ 0 then .error .offsetNotZero
    else if adcReserved data ≠ 0 then .error .adcReservedNotZero
    else .ok (.evTick (adcField data))
  | .evPulse => decodeBare offset data .evPulse
  | .evButton => decodeBare offset data .evButton
  | .evPtClk => decodeBare offset data .evPtClk
  | .evPwmClk => decodeBare offset data .evPwmClk
  | .dsp => decodeBare offset data .dsp
  | .rst => decodeBare offset data .rst

/-- The operation a word spells, or why it spells none (R135: total on all 64-bit words). -/
def decode (w : Word) : Except Reject Instr :=
  match kindOf (kindField w) with
  | none => .error .unknownKind
  | some k =>
    if rsvField w ≠ 0 then .error .reservedNotZero else decodeOperands (offsetField w) (dataField w) k

/-! ## The encoder (R131, R133, R134) -/

/-- The word of an operation. -/
def encode : Instr → Word
  | .rd offset => opWord 0x01 offset 0
  | .wr offset data => opWord 0x02 offset data
  | .wrCtrl data => opWord 0x02 0x004 data
  | .wrStatus data => opWord 0x02 0x008 data
  | .wrSetpoint data => opWord 0x02 0x00C data
  | .wrPwmPeriod data => opWord 0x02 0x010 data
  | .wrStallLimit data => opWord 0x02 0x014 data
  | .wrIrqEn data => opWord 0x02 0x018 data
  | .wrIrqOvr data => opWord 0x02 0x020 data
  | .evTick adc => opWord 0x10 0 (adc.setWidth 32)
  | .evPulse => opWord 0x11 0 0
  | .evButton => opWord 0x12 0 0
  | .evPtClk => opWord 0x13 0 0
  | .evPwmClk => opWord 0x14 0 0
  | .dsp => opWord 0x20 0 0
  | .rst => opWord 0x3F 0 0

/-! ## The opcode table and the decoder of R135 -/

/-- One row of spec/opcode_table.json: its mnemonic, match and mask, and the operation its fields give. -/
structure OpRow where
  mnemonic : String
  pattern : Word
  mask : Word
  build : Offset → HostWord → Instr

/-- spec/opcode_table.json, row by row. -/
def opcodeTable : List OpRow := [
  ⟨"RD", 0x0100000000000000, 0xFFFF0000FFFFFFFF, fun o _ => .rd o⟩,
  ⟨"WR", 0x0200000000000000, 0xFFFF000000000000, fun o d => .wr o d⟩,
  ⟨"WR_CTRL", 0x0200000400000000, 0xFFFFFFFF00000000, fun _ d => .wrCtrl d⟩,
  ⟨"WR_STATUS", 0x0200000800000000, 0xFFFFFFFF00000000, fun _ d => .wrStatus d⟩,
  ⟨"WR_SETPOINT", 0x0200000C00000000, 0xFFFFFFFF00000000, fun _ d => .wrSetpoint d⟩,
  ⟨"WR_PWM_PERIOD", 0x0200001000000000, 0xFFFFFFFF00000000, fun _ d => .wrPwmPeriod d⟩,
  ⟨"WR_STALL_LIMIT", 0x0200001400000000, 0xFFFFFFFF00000000, fun _ d => .wrStallLimit d⟩,
  ⟨"WR_IRQ_EN", 0x0200001800000000, 0xFFFFFFFF00000000, fun _ d => .wrIrqEn d⟩,
  ⟨"WR_IRQ_OVR", 0x0200002000000000, 0xFFFFFFFF00000000, fun _ d => .wrIrqOvr d⟩,
  ⟨"EV_TICK", 0x1000000000000000, 0xFFFFFFFFFFFFF000, fun _ d => .evTick (adcField d)⟩,
  ⟨"EV_PULSE", 0x1100000000000000, 0xFFFFFFFFFFFFFFFF, fun _ _ => .evPulse⟩,
  ⟨"EV_BUTTON", 0x1200000000000000, 0xFFFFFFFFFFFFFFFF, fun _ _ => .evButton⟩,
  ⟨"EV_PT_CLK", 0x1300000000000000, 0xFFFFFFFFFFFFFFFF, fun _ _ => .evPtClk⟩,
  ⟨"EV_PWM_CLK", 0x1400000000000000, 0xFFFFFFFFFFFFFFFF, fun _ _ => .evPwmClk⟩,
  ⟨"DSP", 0x2000000000000000, 0xFFFFFFFFFFFFFFFF, fun _ _ => .dsp⟩,
  ⟨"RST", 0x3F00000000000000, 0xFFFFFFFFFFFFFFFF, fun _ _ => .rst⟩]

/-- A word matches a row when `(word & mask) = match` (R135). -/
def OpRow.accepts (row : OpRow) (w : Word) : Bool := w &&& row.mask == row.pattern

/-- How many of the low `n` bits of `w` are 1. -/
def onesBelow (w : Word) : Nat → Nat
  | 0 => 0
  | n + 1 => onesBelow w n + (w.getLsbD n).toNat

/-- The number of 1 bits of a row's mask, by which R135 ranks the rows a word matches. -/
def OpRow.weight (row : OpRow) : Nat := onesBelow row.mask 64

/-- The row of greatest weight, the earlier one where two have the same. -/
def heaviest : List OpRow → Option OpRow
  | [] => none
  | row :: rows =>
    match heaviest rows with
    | none => some row
    | some best => if row.weight < best.weight then some best else some row

/-- R135 word for word: the matching row whose mask has the most 1 bits, and no operation where none matches. -/
def tableDecode (w : Word) : Option Instr :=
  (heaviest (opcodeTable.filter (fun row => row.accepts w))).map (fun row => row.build (offsetField w) (dataField w))

/-! ## The host's view of the decoder -/

/-- The operation word whose low `nbits` bits are those of `w`, the bits above them 0. -/
def tableWord (nbits w : Nat) : Word := BitVec.ofNat 64 (w % 2 ^ nbits)

/-- What the decoder reads from an operation whose bits are `w`. An operation has 64 bits (R130), so a longer one is none. -/
def decodeTableWord (nbits w : Nat) : Option Instr :=
  if nbits ≤ 64 then
    match decode (tableWord nbits w) with
    | .ok i => some i
    | .error _ => none
  else none

end Sys2Proof
end

