-- ==== Sys2Proof/Config.lean ====
section
/-! DEFINITION. The configuration of the block: the parameters of R10 (named by the source, with no value) and of
R11 (the spec's own). They are fixed when the block is built and no operation changes them (R65, R403).

Every operation of the model takes the parameters as an argument `p : Params`; the machine itself (`exec`, `step`)
runs at the ONE configuration `Config.params`, an opaque constant: nothing can evaluate it, so a claim about the
machine holds whatever legal configuration the block was built with. -/

namespace Sys2Proof

/-- `RPM_FRACTION_MODE` (R11): whether the current timer fraction enters the estimate. -/
inductive FractionMode where
  /-- the literal contract: the fraction is only carried, negated, into the next estimate. -/
  | carryOnly
  /-- the interpolating reading: the fraction is added now and its negation is carried. -/
  | addAndCarry
deriving DecidableEq, Repr

/-- `RPM_SCALE_MODE` (R11): how `1000 / loop_period` is divided. -/
inductive ScaleMode where
  /-- exact rational division. -/
  | exact
  /-- integer division, truncating. -/
  | trunc
deriving DecidableEq, Repr

/-- A LEGAL configuration. The last fields are the constraints of R10; a configuration that breaks one is refused, in
that no `Params` stands for it ("the model has no machine for it").

`ADC_OFFSET` (0..4095) and `PT_PERIOD` (1..2^32 - 1) get their ranges from their widths. The defaults of the R11 fields
are the spec's, but for `PT_CLK_HZ`, whose default R11 leaves open ("none: OPEN"): its 1 is a DESIGN CHOICE of the model
(notes/assumptions/3). That 1 and the values given to the R10 fields say only that the type is inhabited (an opaque constant needs that):
`Config.params` does not unfold to them. -/
structure Params where
  /-- `P_GAIN`, the proportional gain. -/
  pGain : ℚ := 0
  /-- `I_GAIN`, the integral gain. -/
  iGain : ℚ := 0
  /-- `I_MIN`, the lower bound of the integrator. -/
  iMin : ℚ := 0
  /-- `I_MAX`, the upper bound of the integrator. -/
  iMax : ℚ := 0
  /-- `ADC_OFFSET`, the calibration offset of the ADC. -/
  adcOffset : BitVec 12 := 0
  /-- `CUR_SCALE_NUM`. -/
  curScaleNum : ℚ := 0
  /-- `CUR_SCALE_DEN`. -/
  curScaleDen : ℚ := 1
  /-- `PT_PERIOD`, the reload value of the pulse timer. -/
  ptPeriod : BitVec 32 := 1
  /-- `NUM_ROUND`, the rounding of every write of a rational register; the spec's default is the identity. -/
  numRound : ℚ → ℚ := id
  /-- `RPM_FRACTION_MODE`; the spec's default is CARRY_ONLY. -/
  rpmFractionMode : FractionMode := .carryOnly
  /-- `RPM_SCALE_MODE`; the spec's default is EXACT. -/
  rpmScaleMode : ScaleMode := .exact
  /-- `PWM_TICKS_PER_MS`: the meaning in time of one PWM_CLK (R273). No rule reads it. -/
  pwmTicksPerMs : Nat := 100
  /-- `PT_CLK_HZ`: the environment's rate of EV_PT_CLK (R337). No rule reads it. R11 gives no default (OPEN); the 1 is the
  model's own, DESIGN CHOICE (notes/assumptions/3). -/
  ptClkHz : Nat := 1
  iMin_nonpos : iMin ≤ 0 := by decide
  iMax_nonneg : 0 ≤ iMax := by decide
  curScaleDen_ne_zero : curScaleDen ≠ 0 := by decide
  ptPeriod_ne_zero : ptPeriod ≠ 0 := by decide
  pwmTicksPerMs_pos : 0 < pwmTicksPerMs := by decide
  ptClkHz_pos : 0 < ptClkHz := by decide
deriving Inhabited

/-- The configuration this block was built with: any legal one (R10, R11; notes/assumptions/3). -/
opaque Config.params : Params

end Sys2Proof
end

