-- ==== Sys2Proof/Machine/State.lean ====
section
/-! DEFINITION. The state of the block. `Regs` is the state tuple of R65: every register of the map of R33 with its
internal value, except ID, which is hard-wired (R31) and lives in the read operation. `State` adds the two fields that
are the model's own: the operation words still to come, and the outcome of the last step (R362). -/

namespace Sys2Proof.Machine

/-- `STATUS.STATE` (R36): 0 Idle, 1 Sampling, 2 Evaluating. The value 3 is reserved and never produced. -/
inductive SchedState where
  | idle | sampling | evaluating
deriving DecidableEq, Repr

/-- The interrupt sources (R20, R369). -/
inductive Source where
  | tick | pwm | pulse | btn
deriving DecidableEq, Repr

/-- Why the window answers an access with a BusError (R361). -/
inductive BusReason where
  | outOfWindow | misaligned
deriving DecidableEq, Repr

/-- The operation faults of R360 and R361. They change no state and a run goes on after them, so they are outcomes
recorded in `State.resp`, not stops (notes/assumptions/1). -/
inductive Exc where
  /-- IllegalOp(word): the word spells no operation. -/
  | illegalOp (word : Word)
  /-- BusError(offset, reason): an RD or WR outside the window or misaligned. -/
  | busError (offset : Offset) (reason : BusReason)
deriving DecidableEq, Repr

/-- The outcome of a step (R362): OK, OK(data), or an operation fault. -/
inductive Response where
  | ok
  | okData (data : HostWord)
  | exc (e : Exc)
deriving DecidableEq, Repr

/-- Why a step has no next state. -/
inductive Fault where
  /-- Raised by `step` alone, when no operation word is left: a run ends when its trace of steps ends (R432). Safe. -/
  | traceEnded
deriving DecidableEq, Repr

/-- Why an operation has no meaning. -/
inductive Refusal where
  /-- Raised by an arm of `exec` whose operation has no meaning yet; no arm does. Safe. -/
  | notModelled (mnemonic : String)
deriving DecidableEq, Repr

/-- The registers of the block (R33, R65), at the widths of R12. -/
structure Regs where
  /-- CTRL.RUN (R34). -/
  run : Bool
  /-- STATUS.STATE (R36). -/
  state : SchedState
  /-- STATUS.DRDY (R35). -/
  drdy : Bool
  /-- STATUS.STALLED (R35, R313). -/
  stalled : Bool
  /-- STATUS.PWM_PHASE_ON (R35). -/
  pwmPhaseOn : Bool
  /-- STATUS.PWM_LINE (R35): the actuator output line. -/
  pwmLine : Bool
  /-- STATUS.PWM_RUNNING (R35): the PWM timer counts. -/
  pwmRunning : Bool
  /-- SETPOINT (R37). -/
  setpoint : BitVec 16
  /-- PWM_PERIOD (R38). -/
  pwmPeriod : BitVec 16
  /-- STALL_LIMIT (R39). -/
  stallLimit : BitVec 16
  /-- IRQ_EN (R40): bit 0 TICK, 1 PWM, 2 PULSE, 3 BTN. -/
  irqEn : BitVec 4
  /-- IRQ_PEND (R41), the same bits. -/
  irqPend : BitVec 4
  /-- IRQ_OVR (R42), the same bits. -/
  irqOvr : BitVec 4
  /-- LOOP_PERIOD (R43). -/
  loopPeriod : BitVec 16
  /-- TICK_CNT (R44). -/
  tickCnt : BitVec 16
  /-- PULSE_CNT (R45). -/
  pulseCnt : BitVec 32
  /-- PT_REMAIN (R46). -/
  ptRemain : BitVec 32
  /-- RESIDUE (R47). -/
  residue : ℚ
  /-- MEAS_RPM (R48). -/
  measRpm : ℚ
  /-- I_STATE (R49). -/
  iState : ℚ
  /-- PID_OUT (R50). -/
  pidOut : ℚ
  /-- DUTY (R51). -/
  duty : BitVec 7
  /-- PWM_RELOAD (R52). -/
  pwmReload : BitVec 32
  /-- PWM_COUNT (R53). -/
  pwmCount : BitVec 32
  /-- CUR_SUM (R54): a signed 32-bit integer (R12, D29), whose value is `curSum.toInt`. -/
  curSum : BitVec 32
  /-- CUR_CNT (R55). -/
  curCnt : BitVec 11
  /-- RPM_SUM (R56). -/
  rpmSum : ℚ
  /-- RPM_CNT (R57). -/
  rpmCnt : BitVec 16
  /-- PUB_RPM (R58): an integer. -/
  pubRpm : ℤ
  /-- PUB_CURR (R59). -/
  pubCurr : ℚ
  /-- PUB_CURR_RAW (R60). -/
  pubCurrRaw : ℚ
  /-- PUB_SEQ (R61). -/
  pubSeq : BitVec 32
  /-- IDLE_TICKS (R62). -/
  idleTicks : BitVec 16
  /-- ADC_LATCH (R63). -/
  adcLatch : BitVec 12
deriving DecidableEq, Repr

/-- The registers after reset (R75, R401) at the configuration `p`. -/
def Regs.reset (p : Params) : Regs where
  run := false
  state := .idle
  drdy := false
  stalled := false
  pwmPhaseOn := false
  pwmLine := false
  pwmRunning := false
  setpoint := 0
  pwmPeriod := 1000
  stallLimit := 0
  irqEn := 0xF
  irqPend := 0
  irqOvr := 0
  loopPeriod := 200
  tickCnt := 0
  pulseCnt := 0
  ptRemain := p.ptPeriod
  residue := 0
  measRpm := 0
  iState := 0
  pidOut := 0
  duty := 0
  pwmReload := 0
  pwmCount := 0
  curSum := 0
  curCnt := 0
  rpmSum := 0
  rpmCnt := 0
  pubRpm := 0
  pubCurr := 0
  pubCurrRaw := 0
  pubSeq := 0
  idleTicks := 0
  adcLatch := 0

/-- The state of the model. -/
structure State where
  /-- The state of the block (R65). -/
  regs : Regs
  /-- The model's own field: the operation words that the host and the environment will present, the next one first
  (R5, R368: a run is any sequence of operation words; notes/assumptions/2). -/
  ops : List Word
  /-- The model's own field: the outcome of the last step (R362, R432; notes/assumptions/1). -/
  resp : Response
deriving DecidableEq, Repr

/-- The block right after reset or power-on (R75, R400, R401), with no operation word waiting. -/
def State.reset : State where
  regs := Regs.reset Config.params
  ops := []
  resp := .ok

/-- What an operation answers. -/
abbrev Result := Host.Outcome State Fault Refusal

end Sys2Proof.Machine
end

