-- ==== Sys2Proof/Machine/Operands.lean ====
section
/-! DEFINITION. The numbers of the spec (R14, R15, R19, R23), the operand forms of the operations (R132: the bits of
DATA each write takes) and the common check of an access (R160). -/

namespace Sys2Proof.Machine

/-! ## Integers and rationals (R14, R15) -/

/-- `wrap_N(v) = v mod 2^N` (R14), as an N-bit word. -/
def wrap (n : Nat) (v : ℤ) : BitVec n := BitVec.ofInt n v

/-- `sat_N(v)`: clamps an integer to [-2^(N-1), 2^(N-1) - 1] (R14). -/
def sat (n : Nat) (v : ℤ) : ℤ :=
  if v < -2 ^ (n - 1) then -2 ^ (n - 1) else if 2 ^ (n - 1) - 1 < v then 2 ^ (n - 1) - 1 else v

/-- `usat_N(v)`: clamps to [0, 2^N - 1] (R14). -/
def usat (n : Nat) (v : ℤ) : ℤ :=
  if v < 0 then 0 else if 2 ^ n - 1 < v then 2 ^ n - 1 else v

/-- `clamp(x, lo, hi)` (R15); it is used only where `lo ≤ hi`. -/
def clamp (x lo hi : ℚ) : ℚ :=
  if x < lo then lo else if hi < x then hi else x

/-- `trunc(x)`: rounds toward zero (R15). -/
def trunc (x : ℚ) : ℤ :=
  if 0 ≤ x then x.floor else -(-x).floor

/-- `rnd(x) = NUM_ROUND(x)` (R19). -/
def rnd (p : Params) (x : ℚ) : ℚ := p.numRound x

/-! ## Readback conversions (R23) -/

/-- `q16(x) = wrap_32(sat_32(floor(x * 65536)))`: a two's-complement Q16.16 word. -/
def q16 (x : ℚ) : HostWord := wrap 32 (sat 32 (x * 65536).floor)

/-- `int32(x) = wrap_32(sat_32(trunc(x)))`. -/
def int32 (x : ℚ) : HostWord := wrap 32 (sat 32 (trunc x))

/-! ## The bits of DATA a write takes (R132, R163-R171) -/

/-- `DATA[0]`. -/
def dataBit0 (data : HostWord) : Bool := data.getLsbD 0

/-- `DATA[2]`. -/
def dataBit2 (data : HostWord) : Bool := data.getLsbD 2

/-- `DATA[3:0]`. -/
def dataLow4 (data : HostWord) : BitVec 4 := data.extractLsb' 0 4

/-- `DATA[15:0]`. -/
def dataLow16 (data : HostWord) : BitVec 16 := data.extractLsb' 0 16

/-! ## The common check of RD and WR (R160) -/

/-- The window check comes first, then the alignment check (R160, R372(a)). -/
def checkAccess (offset : Offset) : Option BusReason :=
  if offset.extractLsb' 12 4 ≠ 0 then some .outOfWindow
  else if offset.extractLsb' 0 2 ≠ 0 then some .misaligned
  else none

end Sys2Proof.Machine
end

