-- ==== Sys2Proof/Machine/Flags.lean ====
section
/-! DEFINITION. The flags: the fields of STATUS (R35, R36), the three bits every interrupt source has (R40-R42, R364,
R365, R367), and the stall flag (R313). -/

namespace Sys2Proof.Machine

/-! ## STATUS (R35, R36) -/

/-- The encoding of STATUS.STATE (R36). -/
def stateCode : SchedState → BitVec 2
  | .idle => 0
  | .sampling => 1
  | .evaluating => 2

/-- `{PWM_RUNNING, PWM_LINE, PWM_PHASE_ON, STALLED, DRDY, STATE[1:0]}` (R161). -/
def statusBits (r : Regs) : BitVec 7 :=
  BitVec.ofBool r.pwmRunning ++ BitVec.ofBool r.pwmLine ++ BitVec.ofBool r.pwmPhaseOn ++ BitVec.ofBool r.stalled ++
    BitVec.ofBool r.drdy ++ stateCode r.state

/-! ## Interrupt sources (R20, R364, R369) -/

/-- The number of a source, which is its bit in IRQ_EN, IRQ_PEND and IRQ_OVR (R20). -/
def sourceIndex : Source → Nat
  | .tick => 0
  | .pwm => 1
  | .pulse => 2
  | .btn => 3

/-- The one bit of a source in IRQ_EN, IRQ_PEND and IRQ_OVR. -/
def sourceBit (src : Source) : BitVec 4 := 1#4 <<< sourceIndex src

/-- `pending(s)` is IRQ_PEND[s] (R364). -/
def pending (src : Source) (r : Regs) : Bool := r.irqPend.getLsbD (sourceIndex src)

/-- `enabled(s)` is IRQ_EN[s] (R364). -/
def enabled (src : Source) (r : Regs) : Bool := r.irqEn.getLsbD (sourceIndex src)

/-- `set_pending(s)` (R365): a second event before the dispatch coalesces, and IRQ_OVR records the loss. -/
def setPending (src : Source) (r : Regs) : Regs :=
  if pending src r then { r with irqOvr := r.irqOvr ||| sourceBit src }
  else { r with irqPend := r.irqPend ||| sourceBit src }

/-- `IRQ_PEND[s] <- 0`, done by the dispatch step that takes s (R345, R367). -/
def clearPending (src : Source) (r : Regs) : Regs :=
  { r with irqPend := r.irqPend &&& ~~~ sourceBit src }

/-- Start and stop clear TICK, PWM and PULSE but not BTN (R164, R165, R367). -/
def clearLoopPending (r : Regs) : Regs :=
  clearPending .pulse (clearPending .pwm (clearPending .tick r))

/-! ## Stall detection (R312, R313) -/

/-- IDLE_TICKS after one more tick: it saturates at 0xFFFF (R300, R312). -/
def nextIdleTicks (ticks : BitVec 16) : BitVec 16 := BitVec.ofNat 16 (min (ticks.toNat + 1) 0xFFFF)

/-- `(STALL_LIMIT ≠ 0) and (IDLE_TICKS ≥ STALL_LIMIT)` (R313). -/
def stallDetected (limit ticks : BitVec 16) : Bool := limit != 0 && decide (limit.toNat ≤ ticks.toNat)

/-- A sign of life clears the stall state (R167, R203, R341). -/
def clearStall (r : Regs) : Regs := { r with idleTicks := 0, stalled := false }

end Sys2Proof.Machine
end

