-- ==== Sys2Proof/Machine/Ops.lean ====
section
/-! DEFINITION. The named operations: the register window and its reads (R33, R161), the outcome of a step (R362),
raising an operation fault (R360, R361), the choice of an interrupt source, handler entry and return (R366, R373, R374),
and the presentation and fetch of operation words. -/

namespace Sys2Proof.Machine

/-! ## The register map (R33) -/

/-- The registers of the window. -/
inductive Reg where
  | id | ctrl | status | setpoint | pwmPeriod | stallLimit | irqEn | irqPend | irqOvr | loopPeriod | tickCnt | pulseCnt
  | ptRemain | residue | measRpm | iState | pidOut | duty | pwmReload | pwmCount | curSum | curCnt | rpmSum | rpmCnt
  | pubRpm | pubCurr | pubCurrRaw | pubSeq | idleTicks | adcLatch
deriving DecidableEq, Repr

/-- The offset of each register (R33). -/
def regOffset : Reg → Offset
  | .id => 0x000
  | .ctrl => 0x004
  | .status => 0x008
  | .setpoint => 0x00C
  | .pwmPeriod => 0x010
  | .stallLimit => 0x014
  | .irqEn => 0x018
  | .irqPend => 0x01C
  | .irqOvr => 0x020
  | .loopPeriod => 0x024
  | .tickCnt => 0x028
  | .pulseCnt => 0x02C
  | .ptRemain => 0x030
  | .residue => 0x034
  | .measRpm => 0x038
  | .iState => 0x03C
  | .pidOut => 0x040
  | .duty => 0x044
  | .pwmReload => 0x048
  | .pwmCount => 0x04C
  | .curSum => 0x050
  | .curCnt => 0x054
  | .rpmSum => 0x058
  | .rpmCnt => 0x05C
  | .pubRpm => 0x060
  | .pubCurr => 0x064
  | .pubCurrRaw => 0x068
  | .pubSeq => 0x06C
  | .idleTicks => 0x070
  | .adcLatch => 0x074

/-- Every register of the map, in the order of R33. -/
def allRegs : List Reg :=
  [.id, .ctrl, .status, .setpoint, .pwmPeriod, .stallLimit, .irqEn, .irqPend, .irqOvr, .loopPeriod, .tickCnt, .pulseCnt,
    .ptRemain, .residue, .measRpm, .iState, .pidOut, .duty, .pwmReload, .pwmCount, .curSum, .curCnt, .rpmSum, .rpmCnt,
    .pubRpm, .pubCurr, .pubCurrRaw, .pubSeq, .idleTicks, .adcLatch]

/-- The register at an offset; none where the map has none (R64). -/
def regAt (offset : Offset) : Option Reg := allRegs.find? (fun x => regOffset x == offset)

/-- `ID` always reads 0x5049_4431, "PID1" (R31). It is hard-wired: no state holds it. -/
def idValue : HostWord := 0x50494431

/-- The readback value of each register (R161, R23). -/
def readReg (r : Regs) : Reg → HostWord
  | .id => idValue
  | .ctrl => (BitVec.ofBool r.run).setWidth 32
  | .status => (statusBits r).setWidth 32
  | .setpoint => r.setpoint.setWidth 32
  | .pwmPeriod => r.pwmPeriod.setWidth 32
  | .stallLimit => r.stallLimit.setWidth 32
  | .irqEn => r.irqEn.setWidth 32
  | .irqPend => r.irqPend.setWidth 32
  | .irqOvr => r.irqOvr.setWidth 32
  | .loopPeriod => r.loopPeriod.setWidth 32
  | .tickCnt => r.tickCnt.setWidth 32
  | .pulseCnt => r.pulseCnt
  | .ptRemain => r.ptRemain
  | .residue => q16 r.residue
  | .measRpm => q16 r.measRpm
  | .iState => q16 r.iState
  | .pidOut => q16 r.pidOut
  | .duty => r.duty.setWidth 32
  | .pwmReload => r.pwmReload
  | .pwmCount => r.pwmCount
  | .curSum => r.curSum
  | .curCnt => r.curCnt.setWidth 32
  | .rpmSum => q16 r.rpmSum
  | .rpmCnt => r.rpmCnt.setWidth 32
  | .pubRpm => int32 (r.pubRpm : ℚ)
  | .pubCurr => q16 r.pubCurr
  | .pubCurrRaw => q16 r.pubCurrRaw
  | .pubSeq => r.pubSeq
  | .idleTicks => r.idleTicks.setWidth 32
  | .adcLatch => r.adcLatch.setWidth 32

/-- `readback(OFFSET)` (R161): an offset that holds no register reads as zero (R64, R105). -/
def readback (r : Regs) (offset : Offset) : HostWord :=
  match regAt offset with
  | some x => readReg r x
  | none => 0

/-- The window as a byte-addressed host bus sees it (R103): byte k of the register at a is its bits [8k+7 : 8k]. -/
def windowByte (r : Regs) (addr : Offset) : BitVec 8 :=
  (readback r (addr &&& 0xFFFC)).extractLsb' (8 * (addr.toNat % 4)) 8

/-! ## Outcomes (R362) -/

/-- The outcome OK: the step completed with the registers `r`. -/
def complete (s : State) (r : Regs) : State := { s with regs := r, resp := .ok }

/-- The outcome OK(data) of an RD: no register changes (R107). -/
def completeRead (s : State) (data : HostWord) : State := { s with resp := .okData data }

/-- Raising an operation fault (R360, R361): no register changes, nothing is sticky, and the outcome records the word or
the offset and reason. A run goes on with the next operation word. -/
def raise (e : Exc) (s : State) : State := { s with resp := .exc e }

/-- The cause code of an operation fault (R362). -/
def causeCode : Exc → Nat
  | .illegalOp _ => 1
  | .busError _ _ => 2

/-- The reason code of a BusError (R361). -/
def reasonCode : BusReason → Nat
  | .outOfWindow => 0
  | .misaligned => 1

/-! ## Interrupts (R364, R366, R373, R374) -/

/-- The sources in priority order, TICK first (R366). -/
def allSources : List Source := [.tick, .pwm, .pulse, .btn]

/-- `select()` (R366): the lowest-numbered source that is pending and enabled; none where there is none (R346). -/
def select (r : Regs) : Option Source := allSources.find? (fun src => pending src r && enabled src r)

/-- Handler entry (R373): the pending bit of the taken source is cleared; nothing is saved and no mask changes. -/
def enterHandler (src : Source) (r : Regs) : Regs := clearPending src r

/-- Handler return (R374): nothing is restored, because nothing was saved. -/
def returnFromHandler (r : Regs) : Regs := r

/-! ## Operation words -/

/-- The host or the environment presents `w` as the next operation word. -/
def present (w : Word) (s : State) : State := { s with ops := w :: s.ops }

/-- The next operation word and the state with it taken; none at the end of the trace (R432). -/
def fetch (s : State) : Option (Word × State) :=
  match s.ops with
  | [] => none
  | w :: rest => some (w, { s with ops := rest })

end Sys2Proof.Machine
end

