-- ==== Sys2Proof/Machine/Pwm.lean ====
section
/-! DEFINITION. The software PWM generator (45_pwm.md). -/

namespace Sys2Proof.Machine

/-- `pwm_clock()` (R272): at expiry the timer reloads itself and raises source PWM. -/
def pwmClock (r : Regs) : Regs :=
  if r.pwmRunning then
    if 1 < r.pwmCount.toNat then { r with pwmCount := r.pwmCount - 1 }
    else setPending .pwm { r with pwmCount := r.pwmReload }
  else r

/-- The reload of the phase being entered (R276): `period * pct` for the on phase, `period * (100 - pct)` for the off
phase. -/
def phaseReload (period : BitVec 16) (pct : BitVec 7) (phaseOn : Bool) : ℤ :=
  if phaseOn then (period.toNat : ℤ) * (100 - (pct.toNat : ℤ)) else (period.toNat : ℤ) * (pct.toNat : ℤ)

/-- Stop, reload and restart the timer, if the reload is positive (R275, R276). -/
def rearm (reload : ℤ) (r : Regs) : Regs :=
  if 0 < reload then { r with pwmReload := wrap 32 reload, pwmCount := wrap 32 reload, pwmRunning := true } else r

/-- `set_duty(period, pct)` (R276): 0 % and 100 % force the line and do not re-arm (R278, R279); the general path drives
the line to the phase being entered (R274) and re-arms; the phase flips on every call. -/
def setDuty (period : BitVec 16) (pct : BitVec 7) (r : Regs) : Regs :=
  let driven :=
    if pct = 0 then { r with pwmLine := false }
    else if pct = 100 then { r with pwmLine := true }
    else rearm (phaseReload period pct r.pwmPhaseOn) { r with pwmLine := !r.pwmPhaseOn }
  { driven with pwmPhaseOn := !driven.pwmPhaseOn }

/-- `on_period_elapsed()` (R280), the handler of source PWM. -/
def onPeriodElapsed (r : Regs) : Regs :=
  if r.run then setDuty r.pwmPeriod r.duty r else r

end Sys2Proof.Machine
end

