-- ==== Sys2Proof/Machine/RpmEstimator.lean ====
section
/-! DEFINITION. The RPM estimator: pulse timer, pulse-edge handler, timer snapshot and finalisation
(41_rpm_estimator.md). -/

namespace Sys2Proof.Machine

/-- `pt_clock()` (R201): counts down PT_PERIOD .. 1 and wraps. -/
def ptClock (p : Params) (r : Regs) : Regs :=
  { r with ptRemain := if 1 < r.ptRemain.toNat then r.ptRemain - 1 else p.ptPeriod }

/-- `pt_restart()` (R202). -/
def ptRestart (p : Params) (r : Regs) : Regs := { r with ptRemain := p.ptPeriod }

/-- `on_pulse_edge()` (R203), the handler of source PULSE. -/
def onPulseEdge (r : Regs) : Regs :=
  if r.run then clearStall { r with pulseCnt := r.pulseCnt + 1 } else r

/-- `snapshot_timer_fraction()` (R205): `(PT_PERIOD - PT_REMAIN) / PT_PERIOD`, exact in ℚ. -/
def timerFraction (p : Params) (r : Regs) : ℚ :=
  ((p.ptPeriod.toNat : ℚ) - (r.ptRemain.toNat : ℚ)) / (p.ptPeriod.toNat : ℚ)

/-- `k = 1000 / P`, exact or truncated (R206). -/
def rpmScale (p : Params) (period : BitVec 16) : ℚ :=
  match p.rpmScaleMode with
  | .exact => 1000 / (period.toNat : ℚ)
  | .trunc => ((1000 / period.toNat : ℕ) : ℚ)

/-- `acc = PULSE_CNT + RESIDUE`, plus the current fraction in ADD_AND_CARRY mode (R206). -/
def pulseAccumulator (p : Params) (r : Regs) : ℚ :=
  match p.rpmFractionMode with
  | .carryOnly => (r.pulseCnt.toNat : ℚ) + r.residue
  | .addAndCarry => (r.pulseCnt.toNat : ℚ) + r.residue + timerFraction p r

/-- `rpm_finalize(P)` (R206): the estimate, and the registers with the residue carried and the pulse counter cleared. -/
def rpmFinalize (p : Params) (period : BitVec 16) (r : Regs) : ℚ × Regs :=
  (rnd p (rpmScale p period * pulseAccumulator p r), { r with residue := rnd p (-timerFraction p r), pulseCnt := 0 })

end Sys2Proof.Machine
end

