-- ==== Sys2Proof/Machine/EventInputs.lean ====
section
/-! DEFINITION. The five event inputs and the button handler (47_event_inputs.md). An event does only what must happen
at its instant; IRQ_EN does not gate it (R340). -/

namespace Sys2Proof.Machine

/-- EV_TICK on the registers (R330): the sample is latched whatever RUN is. -/
def tickEvent (adc : AdcCode) (r : Regs) : Regs :=
  let latched := { r with adcLatch := adc }
  if r.run then setPending .tick latched else latched

/-- EV_PULSE on the registers (R333): the pulse timer restarts for every edge. -/
def pulseEvent (p : Params) (r : Regs) : Regs :=
  let restarted := ptRestart p r
  if r.run then setPending .pulse restarted else restarted

/-- EV_BUTTON on the registers (R336): whatever RUN is. -/
def buttonEvent (r : Regs) : Regs := setPending .btn r

/-- `on_button()` (R341), the handler of source BTN: it runs whether RUN is 0 or 1. -/
def onButton (r : Regs) : Regs := clearStall { r with setpoint := 0 }

/-- EV_TICK (R330). -/
def execEvTick (adc : AdcCode) (s : State) : Result := .next (complete s (tickEvent adc s.regs))

/-- EV_PULSE (R333). -/
def execEvPulse (s : State) : Result := .next (complete s (pulseEvent Config.params s.regs))

/-- EV_BUTTON (R336). -/
def execEvButton (s : State) : Result := .next (complete s (buttonEvent s.regs))

/-- EV_PT_CLK (R338). -/
def execEvPtClk (s : State) : Result := .next (complete s (ptClock Config.params s.regs))

/-- EV_PWM_CLK (R339). -/
def execEvPwmClk (s : State) : Result := .next (complete s (pwmClock s.regs))

end Sys2Proof.Machine
end

