-- ==== Sys2Proof/Machine/CurrentSampler.lean ====
section
/-! DEFINITION. The current accumulator (42_current_sampler.md). -/

namespace Sys2Proof.Machine

/-- `cur_accumulate(raw)` (R221): the sum may be negative. It is computed in ℤ and kept in the 32 bits of CUR_SUM, which it
fits in every state that a run reaches (R54; notes/assumptions/5). -/
def curAccumulate (p : Params) (raw : AdcCode) (r : Regs) : Regs :=
  { r with curSum := wrap 32 (r.curSum.toInt + ((raw.toNat : ℤ) - (p.adcOffset.toNat : ℤ))), curCnt := r.curCnt + 1 }

/-- `cur_close()` (R222): publishes the average of the window, unscaled and scaled, and empties it. -/
def curClose (p : Params) (r : Regs) : Regs :=
  { r with
    pubCurrRaw := rnd p ((r.curSum.toInt : ℚ) / 1000)
    pubCurr := rnd p ((r.curSum.toInt : ℚ) / 1000 * p.curScaleNum / (2 * p.curScaleDen))
    curSum := 0
    curCnt := 0 }

end Sys2Proof.Machine
end

