-- ==== Sys2Proof/Machine/Pid.lean ====
section
/-! DEFINITION. The PID controller with its anti-windup clamp (43_pid.md). -/

namespace Sys2Proof.Machine

/-- The integrator after one error: rounded first, clamped second (R241, R19). -/
def integrate (p : Params) (err iState : ℚ) : ℚ := clamp (rnd p (iState + err)) p.iMin p.iMax

/-- `pid_update(err)` (R241): the unclamped output, which uses the clamped and updated integrator, and the registers
with that integrator. -/
def pidUpdate (p : Params) (err : ℚ) (r : Regs) : ℚ × Regs :=
  (p.pGain * err + p.iGain * integrate p err r.iState, { r with iState := integrate p err r.iState })

end Sys2Proof.Machine
end

