-- ==== Sys2Proof/Machine/RateScheduler.lean ====
section
/-! DEFINITION. The adaptive rate scheduler (44_rate_scheduler.md). -/

namespace Sys2Proof.Machine

/-- `loop_period_for(sp)` (R260): every comparison is strict. -/
def loopPeriodFor (sp : BitVec 16) : BitVec 16 :=
  if 250 < sp.toNat then 30
  else if 100 < sp.toNat then 40
  else if 50 < sp.toNat then 100
  else 200

end Sys2Proof.Machine
end

