-- ==== Sys2Proof/Machine/MasterScheduler.lean ====
section
/-! DEFINITION. The master tick scheduler: the tick handler, the control evaluation and the close of the report window
(46_master_scheduler.md). -/

namespace Sys2Proof.Machine

/-! ## Evaluation (R303) -/

/-- The scaled error `(sp - rpm) * 100 / 350`, exact in ℚ (R305). -/
def scaledError (sp : BitVec 16) (rpm : ℚ) : ℚ := ((sp.toNat : ℚ) - rpm) * 100 / 350

/-- DUTY from PID_OUT: its floor, or 0 while stalled (R309, R314). -/
def dutyFor (stalled : Bool) (pidOut : ℚ) : BitVec 7 := if stalled then 0 else wrap 7 pidOut.floor

/-- The estimate of the period that just ended enters MEAS_RPM and the speed average (R303, R304). -/
def recordRpm (p : Params) (rpm : ℚ) (r : Regs) : Regs :=
  { r with measRpm := rpm, rpmSum := rnd p (r.rpmSum + rpm), rpmCnt := r.rpmCnt + 1 }

/-- The controller runs on `err`, and the caller clamps its output into PID_OUT and DUTY (R303, R242). -/
def applyPid (p : Params) (err : ℚ) (r : Regs) : Regs :=
  let (out, r1) := pidUpdate p err r
  let pid := clamp (rnd p out) 0 100
  { r1 with pidOut := pid, duty := dutyFor r1.stalled pid }

/-- `evaluate()` (R303). STATE is 2 only inside this step, and the estimate uses the old LOOP_PERIOD (R262). -/
def evaluate (p : Params) (r : Regs) : Regs :=
  let sp := r.setpoint
  let (rpm, r1) := rpmFinalize p r.loopPeriod { r with state := .evaluating }
  let r2 := applyPid p (scaledError sp rpm) (recordRpm p rpm r1)
  { r2 with loopPeriod := loopPeriodFor sp, tickCnt := 0, state := .sampling }

/-! ## Window close (R306) -/

/-- PUB_RPM: the mean of the window's estimates, truncated toward zero (R306). -/
def averageRpm (r : Regs) : ℤ := if r.rpmCnt = 0 then 0 else trunc (r.rpmSum / (r.rpmCnt.toNat : ℚ))

/-- `close_window()` (R306). -/
def closeWindow (p : Params) (r : Regs) : Regs :=
  let r1 := curClose p r
  { r1 with pubRpm := averageRpm r1, rpmSum := 0, rpmCnt := 0, pubSeq := r1.pubSeq + 1, drdy := true }

/-! ## The tick handler (R300) -/

/-- Counting and stall detection: the first three lines of R300. -/
def countTick (r : Regs) : Regs :=
  let ticks := nextIdleTicks r.idleTicks
  { r with tickCnt := r.tickCnt + 1, idleTicks := ticks, stalled := stallDetected r.stallLimit ticks }

/-- Counting, then the sample of this tick (R300, R307). -/
def sampleTick (p : Params) (r : Regs) : Regs := curAccumulate p r.adcLatch (countTick r)

/-- The evaluation, on the LOOP_PERIOD-th tick (R301). -/
def evaluateIfDue (p : Params) (r : Regs) : Regs := if r.tickCnt = r.loopPeriod then evaluate p r else r

/-- The close of the window, on its 1000th sample (R306). -/
def closeIfDue (p : Params) (r : Regs) : Regs := if r.curCnt = 1000 then closeWindow p r else r

/-- `on_tick()` (R300), the handler of source TICK: sample, evaluation, close, in that order (R307). -/
def onTick (p : Params) (r : Regs) : Regs :=
  if r.run then closeIfDue p (evaluateIfDue p (sampleTick p r)) else r

end Sys2Proof.Machine
end

