-- ==== Sys2Proof/Machine/Dispatcher.lean ====
section
/-! DEFINITION. The dispatch step: one handler, run to completion (R345, R346, R369, R370), and the eager schedule
(R347). -/

namespace Sys2Proof.Machine

/-- `handler(s)` (R369). -/
def handler (p : Params) : Source → Regs → Regs
  | .tick => onTick p
  | .pwm => onPeriodElapsed
  | .pulse => onPulseEdge
  | .btn => onButton

/-- One dispatch step (R345): with no pending, enabled source it changes nothing (R346). -/
def dispatchStep (p : Params) (r : Regs) : Regs :=
  match select r with
  | none => r
  | some src => returnFromHandler (handler p src (enterHandler src r))

/-- DSP (R345). -/
def execDsp (s : State) : Result := .next (complete s (dispatchStep Config.params s.regs))

/-- `n` dispatch steps. -/
def dispatchSteps (p : Params) : Nat → Regs → Regs
  | 0, r => r
  | n + 1, r => dispatchSteps p n (dispatchStep p r)

/-- The eager schedule after one operation (R347): dispatch until no pending, enabled source remains. No handler makes a
source pending, so four dispatch steps are enough. -/
def dispatchEagerly (p : Params) (r : Regs) : Regs := dispatchSteps p 4 r

end Sys2Proof.Machine
end

