-- ==== Sys2Proof/Machine/HostAccess.lean ====
section
/-! DEFINITION. The host access operations RD, WR and the seven WR_* (40_host_access.md). -/

namespace Sys2Proof.Machine

/-! ## Start and stop (R164, R165) -/

/-- `start()` (R164): a fresh loop state, and the PWM timer armed for one full period with the line low. -/
def start (r : Regs) : Regs :=
  let reload := wrap 32 ((r.pwmPeriod.toNat : ℤ) * 100)
  clearLoopPending
    { r with
      run := true, state := .sampling
      tickCnt := 0, pulseCnt := 0, residue := 0
      iState := 0, measRpm := 0, pidOut := 0, duty := 0
      curSum := 0, curCnt := 0, rpmSum := 0, rpmCnt := 0
      idleTicks := 0, stalled := false
      loopPeriod := loopPeriodFor r.setpoint
      pwmPhaseOn := false, pwmLine := false
      pwmReload := reload, pwmCount := reload, pwmRunning := true }

/-- `stop()` (R165): Idle, with the actuator off. -/
def stop (r : Regs) : Regs :=
  clearLoopPending { r with run := false, state := .idle, pwmRunning := false, pwmLine := false }

/-! ## The write rule of each writable register -/

/-- R163: only a change of RUN has an effect. -/
def writeCtrl (data : HostWord) (r : Regs) : Regs :=
  if !r.run && dataBit0 data then start r
  else if r.run && !dataBit0 data then stop r
  else r

/-- R166: DRDY is cleared by writing 1; every other bit is read-only. -/
def writeStatus (data : HostWord) (r : Regs) : Regs := if dataBit2 data then { r with drdy := false } else r

/-- R167. -/
def writeSetpoint (data : HostWord) (r : Regs) : Regs := clearStall { r with setpoint := dataLow16 data }

/-- R168: a write whose low half is 0 leaves the period unchanged. -/
def writePwmPeriod (data : HostWord) (r : Regs) : Regs :=
  if dataLow16 data ≠ 0 then { r with pwmPeriod := dataLow16 data } else r

/-- R169. -/
def writeStallLimit (data : HostWord) (r : Regs) : Regs := { r with stallLimit := dataLow16 data }

/-- R170: pending bits are unchanged. -/
def writeIrqEn (data : HostWord) (r : Regs) : Regs := { r with irqEn := dataLow4 data }

/-- R171: a 1 clears, a 0 leaves unchanged. -/
def writeIrqOvr (data : HostWord) (r : Regs) : Regs := { r with irqOvr := r.irqOvr &&& ~~~ dataLow4 data }

/-- The case of R162 on a checked OFFSET: the write rule of the register there; a read-only or unmapped offset ignores
the write (R172). -/
def writeWindow (offset : Offset) (data : HostWord) (r : Regs) : Regs :=
  match regAt offset with
  | some .ctrl => writeCtrl data r
  | some .status => writeStatus data r
  | some .setpoint => writeSetpoint data r
  | some .pwmPeriod => writePwmPeriod data r
  | some .stallLimit => writeStallLimit data r
  | some .irqEn => writeIrqEn data r
  | some .irqOvr => writeIrqOvr data r
  | some _ | none => r

/-! ## Meanings -/

/-- RD (R161). -/
def execRd (offset : Offset) (s : State) : Result :=
  match checkAccess offset with
  | some reason => .next (raise (.busError offset reason) s)
  | none => .next (completeRead s (readback s.regs offset))

/-- WR, generic form (R162, R172). -/
def execWr (offset : Offset) (data : HostWord) (s : State) : Result :=
  match checkAccess offset with
  | some reason => .next (raise (.busError offset reason) s)
  | none => .next (complete s (writeWindow offset data s.regs))

/-- WR_CTRL (R163). -/
def execWrCtrl (data : HostWord) (s : State) : Result := .next (complete s (writeCtrl data s.regs))

/-- WR_STATUS (R166). -/
def execWrStatus (data : HostWord) (s : State) : Result := .next (complete s (writeStatus data s.regs))

/-- WR_SETPOINT (R167). -/
def execWrSetpoint (data : HostWord) (s : State) : Result := .next (complete s (writeSetpoint data s.regs))

/-- WR_PWM_PERIOD (R168). -/
def execWrPwmPeriod (data : HostWord) (s : State) : Result := .next (complete s (writePwmPeriod data s.regs))

/-- WR_STALL_LIMIT (R169). -/
def execWrStallLimit (data : HostWord) (s : State) : Result := .next (complete s (writeStallLimit data s.regs))

/-- WR_IRQ_EN (R170). -/
def execWrIrqEn (data : HostWord) (s : State) : Result := .next (complete s (writeIrqEn data s.regs))

/-- WR_IRQ_OVR (R171). -/
def execWrIrqOvr (data : HostWord) (s : State) : Result := .next (complete s (writeIrqOvr data s.regs))

end Sys2Proof.Machine
end

