-- ==== Sys2Proof/Machine/ResetStep.lean ====
section
/-! DEFINITION. The reset step (70_reset_and_hazards.md). -/

namespace Sys2Proof.Machine

/-- RST (R400): every register takes its reset value (R75). The parameters and the words still to come are no registers
of the block (R403, R65) and stay. -/
def execRst (s : State) : Result := .next (complete s (Regs.reset Config.params))

end Sys2Proof.Machine
end

