-- ==== Sys2Proof/Machine/Dispatch.lean ====
section
/-! DEFINITION. The meaning of every operation, one arm per constructor of Instr. -/

namespace Sys2Proof.Machine

def exec (i : Instr) (s : State) : Host.Outcome State Fault Refusal :=
  match i with
  | .rd offset => Sys2Proof.Machine.execRd offset s
  | .wr offset data => Sys2Proof.Machine.execWr offset data s
  | .wrCtrl data => Sys2Proof.Machine.execWrCtrl data s
  | .wrStatus data => Sys2Proof.Machine.execWrStatus data s
  | .wrSetpoint data => Sys2Proof.Machine.execWrSetpoint data s
  | .wrPwmPeriod data => Sys2Proof.Machine.execWrPwmPeriod data s
  | .wrStallLimit data => Sys2Proof.Machine.execWrStallLimit data s
  | .wrIrqEn data => Sys2Proof.Machine.execWrIrqEn data s
  | .wrIrqOvr data => Sys2Proof.Machine.execWrIrqOvr data s
  | .evTick adc => Sys2Proof.Machine.execEvTick adc s
  | .evPulse => Sys2Proof.Machine.execEvPulse s
  | .evButton => Sys2Proof.Machine.execEvButton s
  | .evPtClk => Sys2Proof.Machine.execEvPtClk s
  | .evPwmClk => Sys2Proof.Machine.execEvPwmClk s
  | .dsp => Sys2Proof.Machine.execDsp s
  | .rst => Sys2Proof.Machine.execRst s

end Sys2Proof.Machine
end

