-- ==== Sys2Proof/Machine/Step.lean ====
section
/-! DEFINITION. One step of the machine: the next operation word, decoded and performed (R5). -/

namespace Sys2Proof.Machine

/-- One step. A word that spells no operation raises IllegalOp (R360); at the end of the trace there is no step
(R432). -/
def step (s : State) : Host.Outcome State Fault Refusal :=
  match fetch s with
  | none => .fault .traceEnded
  | some (w, taken) =>
    match decode w with
    | .ok i => exec i taken
    | .error _ => .next (raise (.illegalOp w) taken)

/-- `s` with the operation word `w` (its low `nbits` bits) presented as the next one. -/
def State.withFetchWord (s : State) (nbits w : Nat) : State := present (tableWord nbits w) s

end Sys2Proof.Machine
end

