-- ==== Sys2Proof/Machine/Assembler.lean ====
section
/-! DEFINITION. Traces as text (R138, R139): the assembler from lines to operation words, the pseudo-instructions and
their expansions, and the disassembler. Texts are lists of characters. -/

namespace Sys2Proof.Machine

/-! ## Lines (R138) -/

/-- One line of a trace: one operation. WR is one line whatever its offset (R134 splits it only when it is decoded). -/
inductive TraceLine where
  | rd (offset : Offset)
  | wr (offset : Offset) (data : HostWord)
  | tick (adc : AdcCode)
  | pulse
  | button
  | ptclk
  | pwmclk
  | dsp
  | rst
deriving DecidableEq, Repr

/-- The word of a line (R138, the right column of its table). -/
def lineWord : TraceLine → Word
  | .rd offset => opWord 0x01 offset 0
  | .wr offset data => opWord 0x02 offset data
  | .tick adc => opWord 0x10 0 (adc.setWidth 32)
  | .pulse => opWord 0x11 0 0
  | .button => opWord 0x12 0 0
  | .ptclk => opWord 0x13 0 0
  | .pwmclk => opWord 0x14 0 0
  | .dsp => opWord 0x20 0 0
  | .rst => opWord 0x3F 0 0

/-- The line of an operation: a WR_* is printed as the WR of its register (R138). -/
def disassemble : Instr → TraceLine
  | .rd offset => .rd offset
  | .wr offset data => .wr offset data
  | .wrCtrl data => .wr (regOffset .ctrl) data
  | .wrStatus data => .wr (regOffset .status) data
  | .wrSetpoint data => .wr (regOffset .setpoint) data
  | .wrPwmPeriod data => .wr (regOffset .pwmPeriod) data
  | .wrStallLimit data => .wr (regOffset .stallLimit) data
  | .wrIrqEn data => .wr (regOffset .irqEn) data
  | .wrIrqOvr data => .wr (regOffset .irqOvr) data
  | .evTick adc => .tick adc
  | .evPulse => .pulse
  | .evButton => .button
  | .evPtClk => .ptclk
  | .evPwmClk => .pwmclk
  | .dsp => .dsp
  | .rst => .rst

/-! ## Pseudo-instructions (R139) -/

/-- The pseudo-instructions. -/
inductive Pseudo where
  | start
  | stop
  | clrdrdy
  | clrovr
  | seten (v : HostWord)
  | tickd (adc : AdcCode)
  | pulsed
  | buttond
  | pwmclkd
  | ticks (n : Nat) (adc : AdcCode)
  | pulses (n : Nat)
  | ptclks (n : Nat)
  | pwmclks (n : Nat)
deriving DecidableEq, Repr

/-- `n` copies of some lines, one after another. -/
def copies (n : Nat) (lines : List TraceLine) : List TraceLine := (List.replicate n lines).flatten

/-- The expansion of a pseudo-instruction (R139). -/
def expand : Pseudo → List TraceLine
  | .start => [.wr (regOffset .ctrl) 1]
  | .stop => [.wr (regOffset .ctrl) 0]
  | .clrdrdy => [.wr (regOffset .status) 0x4]
  | .clrovr => [.wr (regOffset .irqOvr) 0xF]
  | .seten v => [.wr (regOffset .irqEn) v]
  | .tickd adc => [.tick adc, .dsp]
  | .pulsed => [.pulse, .dsp]
  | .buttond => [.button, .dsp]
  | .pwmclkd => [.pwmclk, .dsp]
  | .ticks n adc => copies n [.tick adc, .dsp]
  | .pulses n => copies n [.pulse, .dsp]
  | .ptclks n => copies n [.ptclk]
  | .pwmclks n => copies n [.pwmclk, .dsp]

/-! ## Reading text -/

/-- The register names of R138. -/
def regName : Reg → String
  | .id => "ID"
  | .ctrl => "CTRL"
  | .status => "STATUS"
  | .setpoint => "SETPOINT"
  | .pwmPeriod => "PWM_PERIOD"
  | .stallLimit => "STALL_LIMIT"
  | .irqEn => "IRQ_EN"
  | .irqPend => "IRQ_PEND"
  | .irqOvr => "IRQ_OVR"
  | .loopPeriod => "LOOP_PERIOD"
  | .tickCnt => "TICK_CNT"
  | .pulseCnt => "PULSE_CNT"
  | .ptRemain => "PT_REMAIN"
  | .residue => "RESIDUE"
  | .measRpm => "MEAS_RPM"
  | .iState => "I_STATE"
  | .pidOut => "PID_OUT"
  | .duty => "DUTY"
  | .pwmReload => "PWM_RELOAD"
  | .pwmCount => "PWM_COUNT"
  | .curSum => "CUR_SUM"
  | .curCnt => "CUR_CNT"
  | .rpmSum => "RPM_SUM"
  | .rpmCnt => "RPM_CNT"
  | .pubRpm => "PUB_RPM"
  | .pubCurr => "PUB_CURR"
  | .pubCurrRaw => "PUB_CURR_RAW"
  | .pubSeq => "PUB_SEQ"
  | .idleTicks => "IDLE_TICKS"
  | .adcLatch => "ADC_LATCH"

/-- Upper case of an ASCII letter; other characters are unchanged. Names are case-insensitive (R138). -/
def upperChar (c : Char) : Char :=
  if 'a'.toNat ≤ c.toNat ∧ c.toNat ≤ 'z'.toNat then Char.ofNat (c.toNat - 32) else c

def upper (text : List Char) : List Char := text.map upperChar

/-- The blanks of a line. R138 does not say which characters they are: space, tab and carriage return are a DESIGN CHOICE
(notes/assumptions/11). -/
def isBlank (c : Char) : Bool := c == ' ' || c == '\t' || c == '\r'

/-- A text without the blanks at its ends. Where blanks may stand (at both ends of a line, before a comment, between a
mnemonic and its operands, and around a comma) R138 does not say either: DESIGN CHOICE (notes/assumptions/11). -/
def trim (text : List Char) : List Char :=
  ((text.dropWhile isBlank).reverse.dropWhile isBlank).reverse

/-- The pieces between the commas of a text. -/
def splitCommas : List Char → List (List Char)
  | [] => [[]]
  | c :: rest =>
    if c == ',' then [] :: splitCommas rest
    else
      match splitCommas rest with
      | [] => [[c]]
      | piece :: pieces => (c :: piece) :: pieces

/-- The value of a digit of base 10 or 16. -/
def digitValue (base : Nat) (c : Char) : Option Nat :=
  let n := c.toNat
  let v :=
    if '0'.toNat ≤ n ∧ n ≤ '9'.toNat then some (n - '0'.toNat)
    else if 'a'.toNat ≤ n ∧ n ≤ 'f'.toNat then some (n - 'a'.toNat + 10)
    else if 'A'.toNat ≤ n ∧ n ≤ 'F'.toNat then some (n - 'A'.toNat + 10)
    else none
  v.filter (fun d => d < base)

/-- The value of a run of digits, `_` allowed between two digits (R138); `afterDigit` says a digit stands just before. -/
def digitsValue (base acc : Nat) (afterDigit : Bool) : List Char → Option Nat
  | [] => if afterDigit then some acc else none
  | c :: rest =>
    if c == '_' then (if afterDigit then digitsValue base acc false rest else none)
    else
      match digitValue base c with
      | some d => digitsValue base (acc * base + d) true rest
      | none => none

/-- A number: decimal, or hexadecimal with a `0x` prefix (R138). -/
def numberValue : List Char → Option Nat
  | '0' :: 'x' :: rest => digitsValue 16 0 false rest
  | text => digitsValue 10 0 false text

/-- A number that fits its field; a larger one is an assembly error (R138 says so for TICK). -/
def fieldValue (width : Nat) (text : List Char) : Option (BitVec width) :=
  (numberValue text).bind (fun n => if n < 2 ^ width then some (BitVec.ofNat width n) else none)

/-- The first operand of RD and WR: a register name or an offset. -/
def offsetOperand (text : List Char) : Option Offset :=
  match allRegs.find? (fun x => (regName x).toList == upper text) with
  | some x => some (regOffset x)
  | none => fieldValue 16 text

/-- A line without its comment, as mnemonic and operands: the mnemonic ends at the first blank, and the operands stand
between commas (notes/assumptions/11). -/
def splitLine (line : List Char) : List Char × List (List Char) :=
  let code := trim (line.takeWhile (fun c => c != ';'))
  let operands := trim (code.dropWhile (fun c => !isBlank c))
  (upper (code.takeWhile (fun c => !isBlank c)), if operands.isEmpty then [] else (splitCommas operands).map trim)

/-- The lines a mnemonic with these operands stands for: its own line, or the expansion of a pseudo-instruction; none is
an assembly error. -/
def parseOperation (mnemonic : List Char) (operands : List (List Char)) : Option (List TraceLine) :=
  match operands with
  | [] =>
    if mnemonic == "PULSE".toList then some [.pulse]
    else if mnemonic == "BUTTON".toList then some [.button]
    else if mnemonic == "PTCLK".toList then some [.ptclk]
    else if mnemonic == "PWMCLK".toList then some [.pwmclk]
    else if mnemonic == "DSP".toList then some [.dsp]
    else if mnemonic == "RST".toList then some [.rst]
    else if mnemonic == "START".toList then some (expand .start)
    else if mnemonic == "STOP".toList then some (expand .stop)
    else if mnemonic == "CLRDRDY".toList then some (expand .clrdrdy)
    else if mnemonic == "CLROVR".toList then some (expand .clrovr)
    else if mnemonic == "PULSED".toList then some (expand .pulsed)
    else if mnemonic == "BUTTOND".toList then some (expand .buttond)
    else if mnemonic == "PWMCLKD".toList then some (expand .pwmclkd)
    else none
  | [x] =>
    if mnemonic == "RD".toList then (offsetOperand x).map (fun o => [.rd o])
    else if mnemonic == "TICK".toList then (fieldValue 12 x).map (fun a => [.tick a])
    else if mnemonic == "SETEN".toList then (fieldValue 32 x).map (fun v => expand (.seten v))
    else if mnemonic == "TICKD".toList then (fieldValue 12 x).map (fun a => expand (.tickd a))
    else if mnemonic == "PULSES".toList then (numberValue x).map (fun n => expand (.pulses n))
    else if mnemonic == "PTCLKS".toList then (numberValue x).map (fun n => expand (.ptclks n))
    else if mnemonic == "PWMCLKS".toList then (numberValue x).map (fun n => expand (.pwmclks n))
    else none
  | [x, y] =>
    if mnemonic == "WR".toList then
      (offsetOperand x).bind (fun o => (fieldValue 32 y).map (fun d => [.wr o d]))
    else if mnemonic == "TICKS".toList then
      (numberValue x).bind (fun n => (fieldValue 12 y).map (fun a => expand (.ticks n a)))
    else none
  | _ => none

/-- One line of text. A line that is blank but for a comment holds no operation. -/
def parseLine (line : List Char) : Option (List TraceLine) :=
  let (mnemonic, operands) := splitLine line
  if mnemonic.isEmpty then some [] else parseOperation mnemonic operands

/-- The words of a trace, line by line; none where a line is an assembly error. -/
def assembleTrace : List (List Char) → Option (List Word)
  | [] => some []
  | line :: rest =>
    (parseLine line).bind (fun ops => (assembleTrace rest).map (fun ws => ops.map lineWord ++ ws))

/-! ## Printing -/

/-- An offset as RD and WR print it: the register's name where there is one. -/
def printOffset (offset : Offset) : String :=
  match regAt offset with
  | some x => regName x
  | none => toString offset.toNat

/-- The text of a line (R138). -/
def printLine : TraceLine → String
  | .rd offset => "RD " ++ printOffset offset
  | .wr offset data => "WR " ++ printOffset offset ++ ", " ++ toString data.toNat
  | .tick adc => "TICK " ++ toString adc.toNat
  | .pulse => "PULSE"
  | .button => "BUTTON"
  | .ptclk => "PTCLK"
  | .pwmclk => "PWMCLK"
  | .dsp => "DSP"
  | .rst => "RST"

end Sys2Proof.Machine
end

