-- ==== Sys2Proof/Safety.lean ====
section
/-! DEFINITION. What a sound state of the block is: the well-formedness of R74, and the stronger facts about reachable
states that other rules state. Each is kept by every step; the claims that say so are the certificate's. -/

namespace Sys2Proof.Machine

/-- The well-formed states of R74. `1 ≤ PWM_PERIOD ≤ 65535` has its upper half from the width of the field. -/
structure Regs.WellFormed (p : Params) (r : Regs) : Prop where
  iState_ge : p.iMin ≤ r.iState
  iState_le : r.iState ≤ p.iMax
  pidOut_ge : 0 ≤ r.pidOut
  pidOut_le : r.pidOut ≤ 100
  duty_le : r.duty.toNat ≤ 100
  loopPeriod_mem : r.loopPeriod = 30 ∨ r.loopPeriod = 40 ∨ r.loopPeriod = 100 ∨ r.loopPeriod = 200
  tickCnt_lt : r.tickCnt.toNat < r.loopPeriod.toNat
  curCnt_lt : r.curCnt.toNat < 1000
  ptRemain_ge : 1 ≤ r.ptRemain.toNat
  ptRemain_le : r.ptRemain.toNat ≤ p.ptPeriod.toNat
  pwmPeriod_ge : 1 ≤ r.pwmPeriod.toNat
  state_eq : r.state = if r.run then .sampling else .idle
  pwmCount_ge : r.pwmRunning = true → 1 ≤ r.pwmCount.toNat
  pwmCount_le : r.pwmRunning = true → r.pwmCount.toNat ≤ r.pwmReload.toNat
  idle_pwmRunning : r.run = false → r.pwmRunning = false
  idle_pwmLine : r.run = false → r.pwmLine = false

/-- While RUN = 0, TICK, PWM and PULSE are not pending (R340, R348), and the PWM timer runs exactly while RUN = 1
(R271). -/
structure Regs.GatedByRun (r : Regs) : Prop where
  no_tick : r.run = false → pending .tick r = false
  no_pwm : r.run = false → pending .pwm r = false
  no_pulse : r.run = false → pending .pulse r = false
  timer_runs : r.pwmRunning = r.run

/-- The ticks of the open window are covered by its evaluations and the control cycle in progress, each at most 200 ticks
long: the reason why every window holds at least five evaluations (R263). -/
structure Regs.WindowCovered (r : Regs) : Prop where
  covered : r.curCnt.toNat ≤ 200 * r.rpmCnt.toNat + r.tickCnt.toNat
  rpmCnt_le : r.rpmCnt.toNat ≤ r.curCnt.toNat

/-- CUR_SUM is a sum of CUR_CNT samples of magnitude at most 4095 (R54, R221). -/
def Regs.CurSumBounded (r : Regs) : Prop := |r.curSum.toInt| ≤ 4095 * (r.curCnt.toNat : ℤ)

/-- RESIDUE is 0 or the rounded negation of a timer fraction in [0, 1) (R206, R205). -/
def Regs.ResidueCarried (p : Params) (r : Regs) : Prop :=
  r.residue = 0 ∨ ∃ f : ℚ, 0 ≤ f ∧ f < 1 ∧ r.residue = rnd p (-f)

/-- DUTY is 0 or the floor of PID_OUT (R303, R309, R314). -/
def Regs.DutyFollowsPid (r : Regs) : Prop := r.duty.toNat = 0 ∨ (r.duty.toNat : ℤ) = r.pidOut.floor

/-- A sound state: all of the above, at the configuration of the block. -/
structure State.Sound (s : State) : Prop where
  wellFormed : s.regs.WellFormed Config.params
  gated : s.regs.GatedByRun
  window : s.regs.WindowCovered
  curSum : s.regs.CurSumBounded
  residue : s.regs.ResidueCarried Config.params
  duty : s.regs.DutyFollowsPid

end Sys2Proof.Machine
end

