-- ==== Sys2Proof/Certificates/Slice0/Obligations.lean ====
section
/-! DEFINITION. The statements for the provers. Effects are written here a second time from the rules, in plain
arithmetic (`max`, `min`, `⌊ ⌋`, record updates), so that a statement says what the spec says and not what the model's
own helper happens to do. A statement about `exec` or `step` holds at the block's configuration `Config.params`, of
which nothing is known but its legality; a statement about an operation of the estimator or the controller holds for
every legal configuration `p`. Where a statement names `resp` or `ops` it speaks of the model's own two fields: the outcome of
the last step (notes/assumptions/1) and the words still to come (notes/assumptions/2). -/

open Sys2Proof Sys2Proof.Machine

namespace Sys2Proof.Claims

/-- The sources that a dispatch step may take: pending and enabled, as bits (R364). -/
def ready (r : Regs) : BitVec 4 := r.irqPend &&& r.irqEn

/-- The lowest-numbered source of a set of bits, as its one bit (0 for none): what R366 takes. -/
def lowestBit (x : BitVec 4) : BitVec 4 := x &&& (0#4 - x)

/-- R260, read from the bottom. -/
def loopPeriod (sp : BitVec 16) : BitVec 16 :=
  if sp.toNat ≤ 50 then 200 else if sp.toNat ≤ 100 then 100 else if sp.toNat ≤ 250 then 40 else 30

/-- Rounding toward zero (R15). -/
def towardZero (x : ℚ) : ℤ := if 0 ≤ x then ⌊x⌋ else ⌈x⌉

/-- The registers after start() (R164). -/
def started (r : Regs) : Regs :=
  { r with
    run := true, state := .sampling, tickCnt := 0, pulseCnt := 0, residue := 0, iState := 0, measRpm := 0, pidOut := 0
    duty := 0, curSum := 0, curCnt := 0, rpmSum := 0, rpmCnt := 0, idleTicks := 0, stalled := false
    loopPeriod := loopPeriod r.setpoint, irqPend := r.irqPend &&& 8, pwmPhaseOn := false, pwmLine := false
    pwmReload := BitVec.ofNat 32 (r.pwmPeriod.toNat * 100), pwmCount := BitVec.ofNat 32 (r.pwmPeriod.toNat * 100)
    pwmRunning := true }

/-- The registers after stop() (R165). -/
def stopped (r : Regs) : Regs :=
  { r with run := false, state := .idle, pwmRunning := false, pwmLine := false, irqPend := r.irqPend &&& 8 }

/-- The first four lines of on_tick() (R300): count, idle count, stall, sample. -/
def sampled (p : Params) (r : Regs) : Regs :=
  let idle := if r.idleTicks = 0xFFFF then 0xFFFF else r.idleTicks + 1
  { r with
    tickCnt := r.tickCnt + 1, idleTicks := idle, stalled := decide (r.stallLimit ≠ 0 ∧ r.stallLimit.toNat ≤ idle.toNat)
    curSum := BitVec.ofInt 32 (r.curSum.toInt + r.adcLatch.toNat - p.adcOffset.toNat), curCnt := r.curCnt + 1 }

/-- evaluate() (R303, with R205, R206, R241, R305, R309, R314). -/
def evaluated (p : Params) (r : Regs) : Regs :=
  let f : ℚ := (p.ptPeriod.toNat - r.ptRemain.toNat) / p.ptPeriod.toNat
  let k : ℚ := if p.rpmScaleMode = .exact then 1000 / r.loopPeriod.toNat else ⌊(1000 / r.loopPeriod.toNat : ℚ)⌋
  let acc : ℚ := r.pulseCnt.toNat + r.residue + if p.rpmFractionMode = .addAndCarry then f else 0
  let rpm := p.numRound (k * acc)
  let err : ℚ := (r.setpoint.toNat - rpm) * 100 / 350
  let i := max p.iMin (min p.iMax (p.numRound (r.iState + err)))
  let out := max 0 (min 100 (p.numRound (p.pGain * err + p.iGain * i)))
  { r with
    residue := p.numRound (-f), pulseCnt := 0, measRpm := rpm, rpmSum := p.numRound (r.rpmSum + rpm)
    rpmCnt := r.rpmCnt + 1, iState := i, pidOut := out, duty := if r.stalled then 0 else BitVec.ofNat 7 ⌊out⌋₊
    loopPeriod := loopPeriod r.setpoint, tickCnt := 0, state := .sampling }

/-- close_window() (R306, R222). -/
def closed (p : Params) (r : Regs) : Regs :=
  { r with
    pubCurrRaw := p.numRound ((r.curSum.toInt : ℚ) / 1000)
    pubCurr := p.numRound ((r.curSum.toInt : ℚ) / 1000 * p.curScaleNum / (2 * p.curScaleDen))
    pubRpm := if r.rpmCnt = 0 then 0 else towardZero (r.rpmSum / r.rpmCnt.toNat)
    curSum := 0, curCnt := 0, rpmSum := 0, rpmCnt := 0, pubSeq := r.pubSeq + 1, drdy := true }

/-- on_tick() while RUN = 1 (R300): the evaluation on the LOOP_PERIOD-th tick, then the close on the 1000th sample. -/
def ticked (p : Params) (r : Regs) : Regs :=
  let a := sampled p r
  let b := if a.tickCnt = a.loopPeriod then evaluated p a else a
  if b.curCnt = 1000 then closed p b else b

/-- set_duty(T, pct) for 0 ≤ pct ≤ 100 and 1 ≤ T (R276, R278, R279). -/
def phaseFlipped (period pct : Nat) (r : Regs) : Regs :=
  if pct = 0 then { r with pwmLine := false, pwmPhaseOn := !r.pwmPhaseOn }
  else if pct = 100 then { r with pwmLine := true, pwmPhaseOn := !r.pwmPhaseOn }
  else
    let reload := BitVec.ofNat 32 (if r.pwmPhaseOn then period * (100 - pct) else period * pct)
    { r with
      pwmLine := !r.pwmPhaseOn, pwmPhaseOn := !r.pwmPhaseOn, pwmReload := reload, pwmCount := reload, pwmRunning := true }

/-- `n` PWM clocks, each followed by a dispatch step: the eager schedule (R347). -/
def pwmClocks (n : Nat) : List Word := (List.replicate n [encode .evPwmClk, encode .dsp]).flatten

/-- One tick for each ADC code, each followed by a dispatch step. -/
def ticks (codes : List AdcCode) : List Word := (codes.map (fun c => [encode (.evTick c), encode .dsp])).flatten

/-- The sum of the samples, each less the ADC offset (R221). -/
def sampleSum (p : Params) (codes : List AdcCode) : ℤ := (codes.map (fun c => (c.toNat : ℤ) - p.adcOffset.toNat)).sum

/-- The host accesses: RD, WR and the WR_*. -/
def isHostAccess : Instr → Bool
  | .rd _ | .wr _ _ | .wrCtrl _ | .wrStatus _ | .wrSetpoint _ | .wrPwmPeriod _ | .wrStallLimit _ | .wrIrqEn _
  | .wrIrqOvr _ => true
  | .evTick _ | .evPulse | .evButton | .evPtClk | .evPwmClk | .dsp | .rst => false

/-- The controller run on a list of errors: its last output, and the registers after it. -/
def pidRun (p : Params) : List ℚ → ℚ × Regs → ℚ × Regs
  | [], x => x
  | e :: es, x => pidRun p es (pidUpdate p e x.2)

/-- Consecutive finalisations at one loop period, each with the edges counted and the timer count found at it: the
estimates. -/
def estimates (p : Params) (period : BitVec 16) : List (BitVec 32 × BitVec 32) → Regs → List ℚ
  | [], _ => []
  | (pulses, remain) :: rest, r =>
    let found := { r with pulseCnt := pulses, ptRemain := remain }
    (rpmFinalize p period found).1 :: estimates p period rest (rpmFinalize p period found).2

end Sys2Proof.Claims

open Sys2Proof.Claims

/-! ## Encoding -/

/-- R131-R134: decoding the word of a well-formed operation gives it back, for all operations and all operands. -/
def Obligations.DecodeEncodeRoundTrip : Prop :=
  ∀ i : Instr, i.wellFormed = true → decode (encode i) = .ok i

/-- The other direction: a word that decodes is the encoding of what it decodes to, which is well-formed, so no two words
spell one operation and no bit is dropped. -/
def Obligations.EncodeDecodeRoundTrip : Prop :=
  ∀ (w : Word) (i : Instr), decode w = .ok i → i.wellFormed = true ∧ encode i = w

/-- R135: the decoder, which reads the fields of the word, gives what the opcode table gives by mask and match, the
matching row with the most mask bits winning. -/
def Obligations.DecodeFollowsOpcodeTable : Prop :=
  ∀ w : Word, (match decode w with | .ok i => some i | .error _ => none) = tableDecode w

/-- R136: the illegal words are exactly those of its five cases, and each raises IllegalOp(word) and changes no
register. -/
def Obligations.IllegalWordsAreThoseOfTheFiveCases : Prop :=
  ∀ w : Word,
    let kind := (w >>> 56).toNat
    let rsv := (w >>> 48).toNat % 256
    let offset := (w >>> 32).toNat % 65536
    let data := w.toNat % 4294967296
    let illegal := kind ∉ [0x01, 0x02, 0x10, 0x11, 0x12, 0x13, 0x14, 0x20, 0x3F] ∨ rsv ≠ 0 ∨
      (offset ≠ 0 ∧ kind ∉ [0x01, 0x02]) ∨ (data ≠ 0 ∧ kind ∈ [0x01, 0x11, 0x12, 0x13, 0x14, 0x20, 0x3F]) ∨
      (kind = 0x10 ∧ data / 4096 ≠ 0)
    ((∃ e, decode w = .error e) ↔ illegal) ∧
    (illegal → ∀ (s : State) (rest : List Word), s.ops = w :: rest →
      step s = .next { s with ops := rest, resp := .exc (.illegalOp w) })

/-- R140: the example words. -/
def Obligations.SpecExampleWordsDecode : Prop :=
  decode 0x0100006000000000 = .ok (.rd 0x060) ∧
  decode 0x0200000C000000AF = .ok (.wrSetpoint 175) ∧
  decode 0x0200000400000001 = .ok (.wrCtrl 1) ∧
  decode 0x1000000000000800 = .ok (.evTick 2048) ∧
  decode 0x1100000000000000 = .ok .evPulse ∧
  decode 0x1200000000000000 = .ok .evButton ∧
  decode 0x1300000000000000 = .ok .evPtClk ∧
  decode 0x1400000000000000 = .ok .evPwmClk ∧
  decode 0x2000000000000000 = .ok .dsp ∧
  decode 0x3F00000000000000 = .ok .rst ∧
  decode 0x1000000000001000 = .error .adcReservedNotZero ∧
  decode 0x0100006200000000 = .ok (.rd 0x062) ∧
  ∀ s : State, exec (.rd 0x062) s = .next { s with resp := .exc (.busError 0x062 .misaligned) }

/-- R138: the line a disassembler prints for an operation assembles to the operation's word; a WR_* is the WR of its
register. -/
def Obligations.DisassembledLinesAssembleBack : Prop :=
  ∀ i : Instr, lineWord (disassemble i) = encode i

/-! ## Steps -/

/-- A step performs the operation that the next word decodes to, on the state with that word taken, and nothing else. -/
def Obligations.StepRunsTheDecodedOperation : Prop :=
  ∀ (s : State) (w : Word) (rest : List Word) (i : Instr), s.ops = w :: rest → decode w = .ok i →
    step s = exec i { s with ops := rest }

/-- R360: a word that spells no operation changes no register; the outcome records its 64 bits, and the trace goes on
(notes/assumptions/1: the outcome is kept in the state). -/
def Obligations.StepRaisesIllegalOp : Prop :=
  ∀ (s : State) (w : Word) (rest : List Word) (e : Reject), s.ops = w :: rest → decode w = .error e →
    step s = .next { s with ops := rest, resp := .exc (.illegalOp w) }

/-- R432: the block never halts: a step has a next state exactly when a word is left. The fault at the end of the trace is
the model's choice (notes/assumptions/2). -/
def Obligations.StepStopsOnlyAtTraceEnd : Prop :=
  ∀ s : State, if s.ops = [] then step s = .fault .traceEnded else ∃ t, step s = .next t

/-! ## RD and WR -/

/-- R161: RD of each register of the map, and no register changes. -/
def Obligations.RdReturnsEachRegister : Prop :=
  ∀ s : State,
    let r := s.regs
    let bit (b : Bool) : Nat := if b then 1 else 0
    let stateNumber : Nat := match r.state with | .idle => 0 | .sampling => 1 | .evaluating => 2
    ∀ x ∈ ([(0x000, 0x50494431#32), (0x004, BitVec.ofNat 32 (bit r.run)),
      (0x008, BitVec.ofNat 32 (stateNumber + 4 * bit r.drdy + 8 * bit r.stalled + 16 * bit r.pwmPhaseOn + 32 * bit r.pwmLine
        + 64 * bit r.pwmRunning)),
      (0x00C, r.setpoint.setWidth 32), (0x010, r.pwmPeriod.setWidth 32), (0x014, r.stallLimit.setWidth 32),
      (0x018, r.irqEn.setWidth 32), (0x01C, r.irqPend.setWidth 32), (0x020, r.irqOvr.setWidth 32),
      (0x024, r.loopPeriod.setWidth 32), (0x028, r.tickCnt.setWidth 32), (0x02C, r.pulseCnt), (0x030, r.ptRemain),
      (0x034, q16 r.residue), (0x038, q16 r.measRpm), (0x03C, q16 r.iState), (0x040, q16 r.pidOut),
      (0x044, r.duty.setWidth 32), (0x048, r.pwmReload), (0x04C, r.pwmCount), (0x050, r.curSum),
      (0x054, r.curCnt.setWidth 32), (0x058, q16 r.rpmSum), (0x05C, r.rpmCnt.setWidth 32), (0x060, int32 r.pubRpm),
      (0x064, q16 r.pubCurr), (0x068, q16 r.pubCurrRaw), (0x06C, r.pubSeq), (0x070, r.idleTicks.setWidth 32),
      (0x074, r.adcLatch.setWidth 32)] : List (Offset × HostWord)),
      (encode (.rd x.1)).toNat = 0x0100000000000000 + x.1.toNat * 0x100000000 ∧
      exec (.rd x.1) s = .next { s with resp := .okData x.2 }

/-- R64, R105: at an aligned offset of the window that holds no register, RD returns 0 and WR changes nothing. -/
def Obligations.UnmappedOffsetsReadZeroAndIgnoreWrites : Prop :=
  ∀ (s : State) (offset : Offset) (data : HostWord), 0x078 ≤ offset.toNat → offset.toNat ≤ 0xFFC →
    offset.toNat % 4 = 0 →
    exec (.rd offset) s = .next { s with resp := .okData 0 } ∧ exec (.wr offset data) s = .next { s with resp := .ok }

/-- R160: RD and WR outside the window, or else misaligned, raise BusError with that reason, and no register changes; every
other RD and WR raises nothing. -/
def Obligations.AccessCheckRaisesBusError : Prop :=
  ∀ (s : State) (offset : Offset) (data : HostWord),
    if 0x1000 ≤ offset.toNat then
      exec (.rd offset) s = .next { s with resp := .exc (.busError offset .outOfWindow) } ∧
      exec (.wr offset data) s = .next { s with resp := .exc (.busError offset .outOfWindow) }
    else if offset.toNat % 4 ≠ 0 then
      exec (.rd offset) s = .next { s with resp := .exc (.busError offset .misaligned) } ∧
      exec (.wr offset data) s = .next { s with resp := .exc (.busError offset .misaligned) }
    else
      (∃ d : HostWord, exec (.rd offset) s = .next { s with resp := .okData d }) ∧
      (∃ r : Regs, exec (.wr offset data) s = .next { s with regs := r, resp := .ok })

/-- R172: a WR to a read-only register or to an offset that holds none has no effect. -/
def Obligations.WrToReadOnlyOrUnmappedIsIgnored : Prop :=
  ∀ (s : State) (offset : Offset) (data : HostWord), offset.toNat < 0x1000 → offset.toNat % 4 = 0 →
    offset.toNat ∉ [0x004, 0x008, 0x00C, 0x010, 0x014, 0x018, 0x020] →
    (encode (.wr offset data)).toNat = 0x0200000000000000 + offset.toNat * 0x100000000 + data.toNat ∧
    exec (.wr offset data) s = .next { s with resp := .ok }

/-- R162: at the seven writable offsets the generic write is the write of that register. -/
def Obligations.GenericWrSelectsTheRegister : Prop :=
  ∀ (s : State) (data : HostWord),
    exec (.wr 0x004 data) s = exec (.wrCtrl data) s ∧ exec (.wr 0x008 data) s = exec (.wrStatus data) s ∧
    exec (.wr 0x00C data) s = exec (.wrSetpoint data) s ∧ exec (.wr 0x010 data) s = exec (.wrPwmPeriod data) s ∧
    exec (.wr 0x014 data) s = exec (.wrStallLimit data) s ∧ exec (.wr 0x018 data) s = exec (.wrIrqEn data) s ∧
    exec (.wr 0x020 data) s = exec (.wrIrqOvr data) s

/-- R163, R164, R165: WR_CTRL starts an idle loop, stops a running one, and otherwise changes nothing. That start() leaves
RESIDUE, I_STATE, MEAS_RPM, PID_OUT and RPM_SUM at a plain 0, as R164 writes it, and not at NUM_ROUND(0), as R19 could be
read, is the model's choice (notes/assumptions/4). -/
def Obligations.WrCtrlStartsAndStopsTheLoop : Prop :=
  ∀ (s : State) (data : HostWord),
    (encode (.wrCtrl data)).toNat = 0x0200000400000000 + data.toNat ∧
    exec (.wrCtrl data) s = .next { s with
      regs := if s.regs.run = false ∧ data.getLsbD 0 = true then started s.regs
        else if s.regs.run = true ∧ data.getLsbD 0 = false then stopped s.regs else s.regs
      resp := .ok }

/-- R166: WR_STATUS clears DRDY where DATA[2] is 1, and changes nothing else. -/
def Obligations.WrStatusClearsDisplayReady : Prop :=
  ∀ (s : State) (data : HostWord),
    (encode (.wrStatus data)).toNat = 0x0200000800000000 + data.toNat ∧
    exec (.wrStatus data) s = .next { s with
      regs := { s.regs with drdy := if data.getLsbD 2 then false else s.regs.drdy }, resp := .ok }

/-- R167: WR_SETPOINT writes the low half of DATA and clears the stall state. -/
def Obligations.WrSetpointWritesAndClearsStall : Prop :=
  ∀ (s : State) (data : HostWord),
    (encode (.wrSetpoint data)).toNat = 0x0200000C00000000 + data.toNat ∧
    exec (.wrSetpoint data) s = .next { s with
      regs := { s.regs with setpoint := BitVec.ofNat 16 data.toNat, idleTicks := 0, stalled := false }, resp := .ok }

/-- R168: WR_PWM_PERIOD writes the low half of DATA unless it is 0. -/
def Obligations.WrPwmPeriodIgnoresZero : Prop :=
  ∀ (s : State) (data : HostWord),
    (encode (.wrPwmPeriod data)).toNat = 0x0200001000000000 + data.toNat ∧
    exec (.wrPwmPeriod data) s = .next { s with
      regs := { s.regs with
        pwmPeriod := if data.toNat % 65536 = 0 then s.regs.pwmPeriod else BitVec.ofNat 16 data.toNat }
      resp := .ok }

/-- R169: WR_STALL_LIMIT writes the low half of DATA. -/
def Obligations.WrStallLimitWritesLowHalf : Prop :=
  ∀ (s : State) (data : HostWord),
    (encode (.wrStallLimit data)).toNat = 0x0200001400000000 + data.toNat ∧
    exec (.wrStallLimit data) s = .next { s with
      regs := { s.regs with stallLimit := BitVec.ofNat 16 data.toNat }, resp := .ok }

/-- R170: WR_IRQ_EN writes DATA[3:0]; pending bits are unchanged. -/
def Obligations.WrIrqEnWritesEnables : Prop :=
  ∀ (s : State) (data : HostWord),
    (encode (.wrIrqEn data)).toNat = 0x0200001800000000 + data.toNat ∧
    exec (.wrIrqEn data) s = .next { s with regs := { s.regs with irqEn := BitVec.ofNat 4 data.toNat }, resp := .ok }

/-- R171: WR_IRQ_OVR clears the bits that DATA[3:0] sets. -/
def Obligations.WrIrqOvrClearsOnOne : Prop :=
  ∀ (s : State) (data : HostWord),
    (encode (.wrIrqOvr data)).toNat = 0x0200002000000000 + data.toNat ∧
    exec (.wrIrqOvr data) s = .next { s with
      regs := { s.regs with irqOvr := s.regs.irqOvr &&& ~~~ BitVec.ofNat 4 data.toNat }, resp := .ok }

/-! ## Event inputs -/

/-- R330 with R365: EV_TICK latches the sample, and while RUN = 1 requests TICK or records the lost event. -/
def Obligations.EvTickLatchesAndRequests : Prop :=
  ∀ (s : State) (adc : AdcCode),
    (encode (.evTick adc)).toNat = 0x1000000000000000 + adc.toNat ∧
    exec (.evTick adc) s = .next { s with
      regs := { s.regs with
        adcLatch := adc
        irqPend := if s.regs.run then s.regs.irqPend ||| 1 else s.regs.irqPend
        irqOvr := if s.regs.run ∧ s.regs.irqPend.getLsbD 0 then s.regs.irqOvr ||| 1 else s.regs.irqOvr }
      resp := .ok }

/-- R333 with R202 and R365: EV_PULSE restarts the pulse timer, and while RUN = 1 requests PULSE or records the lost
event. -/
def Obligations.EvPulseRestartsTimerAndRequests : Prop :=
  ∀ s : State,
    encode .evPulse = 0x1100000000000000 ∧
    exec .evPulse s = .next { s with
      regs := { s.regs with
        ptRemain := Config.params.ptPeriod
        irqPend := if s.regs.run then s.regs.irqPend ||| 4 else s.regs.irqPend
        irqOvr := if s.regs.run ∧ s.regs.irqPend.getLsbD 2 then s.regs.irqOvr ||| 4 else s.regs.irqOvr }
      resp := .ok }

/-- R336 with R365: EV_BUTTON requests BTN whatever RUN is. -/
def Obligations.EvButtonRequests : Prop :=
  ∀ s : State,
    encode .evButton = 0x1200000000000000 ∧
    exec .evButton s = .next { s with
      regs := { s.regs with
        irqPend := s.regs.irqPend ||| 8
        irqOvr := if s.regs.irqPend.getLsbD 3 then s.regs.irqOvr ||| 8 else s.regs.irqOvr }
      resp := .ok }

/-- R338 with R201: EV_PT_CLK counts the pulse timer down and wraps it. -/
def Obligations.EvPtClkCountsDownAndWraps : Prop :=
  ∀ s : State,
    encode .evPtClk = 0x1300000000000000 ∧
    exec .evPtClk s = .next { s with
      regs := { s.regs with
        ptRemain := if 1 < s.regs.ptRemain.toNat then BitVec.ofNat 32 (s.regs.ptRemain.toNat - 1)
          else Config.params.ptPeriod }
      resp := .ok }

/-- R339 with R272 and R365: EV_PWM_CLK counts the PWM timer while it runs; at expiry it reloads it and requests PWM or
records the lost event. -/
def Obligations.EvPwmClkCountsAndExpires : Prop :=
  ∀ s : State,
    let r := s.regs
    let expires := r.pwmRunning = true ∧ r.pwmCount.toNat ≤ 1
    encode .evPwmClk = 0x1400000000000000 ∧
    exec .evPwmClk s = .next { s with
      regs := { r with
        pwmCount := if expires then r.pwmReload
          else if r.pwmRunning then BitVec.ofNat 32 (r.pwmCount.toNat - 1) else r.pwmCount
        irqPend := if expires then r.irqPend ||| 2 else r.irqPend
        irqOvr := if expires ∧ r.irqPend.getLsbD 1 then r.irqOvr ||| 2 else r.irqOvr }
      resp := .ok }

/-! ## Dispatch -/

/-- R346: a DSP with no pending, enabled source changes no register. -/
def Obligations.DspWithNothingReadyIsNoop : Prop :=
  ∀ s : State, ready s.regs = 0 → exec .dsp s = .next { s with resp := .ok }

/-- R345, R366, R373: a DSP clears the pending bit of the lowest-numbered pending, enabled source and no other, whatever
its handler does; masks and overrun bits do not change. -/
def Obligations.DspTakesTheLowestNumberedSource : Prop :=
  ∀ s : State, ∃ t : State, exec .dsp s = .next t ∧
    t.regs.irqPend = s.regs.irqPend &&& ~~~ lowestBit (ready s.regs) ∧
    t.regs.irqEn = s.regs.irqEn ∧ t.regs.irqOvr = s.regs.irqOvr ∧ t.ops = s.ops ∧ t.resp = .ok

/-- R300, R303, R306 (with R205, R206, R221, R222, R241, R309, R313, R314): the TICK handler while RUN = 1, every form of
it: with or without an evaluation, with or without a window close.

Three clauses are the model's choice. MEAS_RPM takes the estimate rounded once and a close leaves RPM_SUM at a plain 0
(notes/assumptions/4, against R19). In states that no run reaches, a counter at its largest value wraps and CUR_SUM keeps
32 bits (notes/assumptions/5), and a LOOP_PERIOD of 0 or a PT_REMAIN above PT_PERIOD still computes
(notes/assumptions/6). -/
def Obligations.DspRunsTickHandler : Prop :=
  ∀ s : State, (ready s.regs).getLsbD 0 = true → s.regs.run = true →
    exec .dsp s = .next { s with
      regs := ticked Config.params { s.regs with irqPend := s.regs.irqPend &&& 0xE }, resp := .ok }

/-- R280, R276, R278, R279: the PWM handler while RUN = 1, in a well-formed state. -/
def Obligations.DspRunsPwmHandler : Prop :=
  ∀ s : State, s.regs.WellFormed Config.params → lowestBit (ready s.regs) = 2 → s.regs.run = true →
    exec .dsp s = .next { s with
      regs := phaseFlipped s.regs.pwmPeriod.toNat s.regs.duty.toNat { s.regs with irqPend := s.regs.irqPend &&& 0xD }
      resp := .ok }

/-- R203: the PULSE handler while RUN = 1. -/
def Obligations.DspRunsPulseHandler : Prop :=
  ∀ s : State, lowestBit (ready s.regs) = 4 → s.regs.run = true →
    exec .dsp s = .next { s with
      regs := { s.regs with
        irqPend := s.regs.irqPend &&& 0xB, pulseCnt := BitVec.ofNat 32 (s.regs.pulseCnt.toNat + 1)
        idleTicks := 0, stalled := false }
      resp := .ok }

/-- R341: the BTN handler, whatever RUN is. -/
def Obligations.DspRunsButtonHandler : Prop :=
  ∀ s : State, lowestBit (ready s.regs) = 8 →
    exec .dsp s = .next { s with
      regs := { s.regs with irqPend := s.regs.irqPend &&& 7, setpoint := 0, idleTicks := 0, stalled := false }
      resp := .ok }

/-- R300, R280, R203: while RUN = 0 the handlers of TICK, PWM and PULSE return at once; only the pending bit is
cleared. -/
def Obligations.DspWhileIdleOnlyClearsThePendingBit : Prop :=
  ∀ s : State, s.regs.run = false → lowestBit (ready s.regs) ∈ [1#4, 2#4, 4#4] →
    exec .dsp s = .next { s with
      regs := { s.regs with irqPend := s.regs.irqPend &&& ~~~ lowestBit (ready s.regs) }, resp := .ok }

/-- R347: after four dispatch steps no pending, enabled source is left, and the masked ones still wait. -/
def Obligations.FourDispatchesDrainTheReadySources : Prop :=
  ∀ (s : State) (rest : List Word), s.ops = List.replicate 4 (encode .dsp) ++ rest →
    ∃ t : State, Host.Core.run Sys2Proof.core 4 s = .next t ∧ t.regs.irqPend = s.regs.irqPend &&& ~~~ s.regs.irqEn ∧
      t.regs.irqEn = s.regs.irqEn ∧ t.ops = rest

/-! ## Reset -/

/-- R400: RST gives every register its reset value, whatever the state; the parameters and the words still to come
stay. -/
def Obligations.RstResetsEveryRegister : Prop :=
  ∀ s : State, encode .rst = 0x3F00000000000000 ∧
    exec .rst s = .next { s with regs := State.reset.regs, resp := .ok }

/-- R75: the reset value of every register, ID among them. -/
def Obligations.ResetStateHoldsTheResetValues : Prop :=
  State.reset.regs =
    { run := false, state := .idle, drdy := false, stalled := false, pwmPhaseOn := false, pwmLine := false
      pwmRunning := false, setpoint := 0, pwmPeriod := 1000, stallLimit := 0, irqEn := 0xF, irqPend := 0, irqOvr := 0
      loopPeriod := 200, tickCnt := 0, pulseCnt := 0, ptRemain := Config.params.ptPeriod, residue := 0, measRpm := 0
      iState := 0, pidOut := 0, duty := 0, pwmReload := 0, pwmCount := 0, curSum := 0, curCnt := 0, rpmSum := 0
      rpmCnt := 0, pubRpm := 0, pubCurr := 0, pubCurrRaw := 0, pubSeq := 0, idleTicks := 0, adcLatch := 0 } ∧
  readback State.reset.regs 0x000 = 0x50494431

/-! ## Invariants -/

/-- The reset state is sound: well-formed (R74), and all the invariants below hold in it. -/
def Obligations.ResetStateIsSound : Prop := State.reset.Sound

/-- R74: reset yields a well-formed state, and every step keeps well-formedness. -/
def Obligations.EveryStepKeepsWellFormedness : Prop :=
  State.reset.regs.WellFormed Config.params ∧
  ∀ s t : State, s.regs.WellFormed Config.params → step s = .next t → t.regs.WellFormed Config.params

/-- R340, R348, R271: every step keeps TICK, PWM and PULSE from being pending while RUN = 0, and PWM_RUNNING equal to
RUN. -/
def Obligations.EveryStepKeepsSourcesGatedByRun : Prop :=
  ∀ s t : State, s.regs.GatedByRun → step s = .next t → t.regs.GatedByRun

/-- R263: every step keeps the open window covered by its evaluations. -/
def Obligations.EveryStepKeepsTheWindowCovered : Prop :=
  ∀ s t : State, s.regs.WellFormed Config.params → s.regs.WindowCovered → step s = .next t → t.regs.WindowCovered

/-- R263: a window that closes holds at least five evaluations, the one of the closing tick counted. -/
def Obligations.ClosingWindowHoldsFiveEvaluations : Prop :=
  ∀ s t : State, s.regs.WellFormed Config.params → s.regs.WindowCovered → exec .dsp s = .next t →
    t.regs.pubSeq ≠ s.regs.pubSeq →
    5 ≤ s.regs.rpmCnt.toNat + if s.regs.tickCnt + 1 = s.regs.loopPeriod then 1 else 0

/-- R54, R221: every step keeps the current sum within 4095 per sample. -/
def Obligations.EveryStepKeepsTheCurrentSumBounded : Prop :=
  ∀ s t : State, s.regs.WellFormed Config.params → s.regs.CurSumBounded → step s = .next t → t.regs.CurSumBounded

/-- R205, R206: every step keeps the residue 0 or the rounded negation of a timer fraction in [0, 1). -/
def Obligations.EveryStepKeepsTheResidueAFraction : Prop :=
  ∀ s t : State, s.regs.WellFormed Config.params → s.regs.ResidueCarried Config.params → step s = .next t →
    t.regs.ResidueCarried Config.params

/-- R309, R314: every step keeps DUTY 0 or the floor of PID_OUT. -/
def Obligations.EveryStepKeepsDutyTheFloorOfPidOut : Prop :=
  ∀ s t : State, s.regs.DutyFollowsPid → step s = .next t → t.regs.DutyFollowsPid

/-! ## Rules about all operations -/

/-- R175: DUTY, I_STATE, LOOP_PERIOD, MEAS_RPM and PID_OUT change only through an evaluation, start and reset. -/
def Obligations.LoopStateChangesOnlyByEvaluationStartOrReset : Prop :=
  ∀ (i : Instr) (s t : State), i.wellFormed = true → exec i s = .next t →
    (t.regs.duty ≠ s.regs.duty ∨ t.regs.iState ≠ s.regs.iState ∨ t.regs.loopPeriod ≠ s.regs.loopPeriod ∨
      t.regs.measRpm ≠ s.regs.measRpm ∨ t.regs.pidOut ≠ s.regs.pidOut) →
    (i = .dsp ∧ (ready s.regs).getLsbD 0 = true ∧ s.regs.run = true ∧ s.regs.tickCnt + 1 = s.regs.loopPeriod) ∨
    ((∃ data, i = .wrCtrl data) ∧ s.regs.run = false ∧ t.regs.run = true) ∨ i = .rst

/-- R367: a pending bit is cleared in exactly three ways: by the dispatch of its source, by start and stop (not BTN), and
by reset; an overrun bit exactly by a host write of 1 to it, and by reset. -/
def Obligations.PendingAndOverrunBitsAreClearedExactlyAsStated : Prop :=
  ∀ (i : Instr) (s t : State) (k : Nat), i.wellFormed = true → exec i s = .next t →
    (s.regs.irqPend.getLsbD k = true →
      (t.regs.irqPend.getLsbD k = false ↔
        (i = .dsp ∧ (lowestBit (ready s.regs)).getLsbD k = true) ∨
        ((∃ data, i = .wrCtrl data) ∧ s.regs.run ≠ t.regs.run ∧ k ≠ 3) ∨ i = .rst)) ∧
    (s.regs.irqOvr.getLsbD k = true →
      (t.regs.irqOvr.getLsbD k = false ↔ (∃ data : HostWord, i = .wrIrqOvr data ∧ data.getLsbD k = true) ∨ i = .rst))

/-- R310, R311: outside reset, the published values and PUB_SEQ change only together, in the one step that closes a
window, which also raises DRDY. -/
def Obligations.PublishedValuesChangeInOneStep : Prop :=
  ∀ (i : Instr) (s t : State), i ≠ .rst → exec i s = .next t →
    (t.regs.pubRpm ≠ s.regs.pubRpm ∨ t.regs.pubCurr ≠ s.regs.pubCurr ∨ t.regs.pubCurrRaw ≠ s.regs.pubCurrRaw ∨
      t.regs.pubSeq ≠ s.regs.pubSeq) →
    i = .dsp ∧ s.regs.run = true ∧ s.regs.curCnt + 1 = 1000 ∧ t.regs.pubSeq = s.regs.pubSeq + 1 ∧ t.regs.drdy = true ∧
      t.regs.curCnt = 0 ∧ t.regs.rpmCnt = 0

/-- R108: repeating an RD or a WR at once gives the same outcome and the same state. -/
def Obligations.HostAccessesAreIdempotent : Prop :=
  ∀ (i : Instr) (s : State), isHostAccess i = true → ∃ t, exec i s = .next t ∧ exec i t = .next t

/-- R36: in a well-formed state an RD of STATUS shows STATE = 1 exactly while RUN = 1, and else 0; never 2 or 3. -/
def Obligations.StatusNeverShowsEvaluating : Prop :=
  ∀ s : State, s.regs.WellFormed Config.params →
    ∃ d : HostWord, exec (.rd 0x008) s = .next { s with resp := .okData d } ∧
      d.toNat % 4 = if s.regs.run then 1 else 0

/-! ## Runs -/

/-- R282: on the eager schedule, with constant duty 1..99 and PWM period T and only PWM clocks, from the start of an on
phase the line is high for exactly T * duty clocks and low for the rest of T * 100, and then every register is as at the
start. -/
def Obligations.PwmWaveformHasTheDutyRatio : Prop :=
  ∀ (s : State) (n : Nat) (rest : List Word),
    let r := s.regs
    let high := r.pwmPeriod.toNat * r.duty.toNat
    let cycle := r.pwmPeriod.toNat * 100
    r.WellFormed Config.params → r.run = true → r.pwmRunning = true → r.irqPend = 0 → r.irqEn.getLsbD 1 = true →
    1 ≤ r.duty.toNat → r.duty.toNat ≤ 99 → r.pwmPhaseOn = true → r.pwmLine = true →
    r.pwmReload.toNat = high → r.pwmCount.toNat = high → n ≤ cycle → s.ops = pwmClocks n ++ rest →
    ∃ t : State, Host.Core.run Sys2Proof.core (2 * n) s = .next t ∧ t.ops = rest ∧
      (n < cycle → t.regs.pwmLine = decide (n < high)) ∧ (n = cycle → t.regs = r)

/-- R222, R220, R310: on the eager schedule, 1000 ticks from the start of a window publish the average of their samples,
unscaled and scaled, once, and empty the window. -/
def Obligations.ThousandSamplesPublishTheirAverage : Prop :=
  ∀ (s : State) (codes : List AdcCode) (rest : List Word),
    s.regs.run = true → s.regs.irqPend = 0 → s.regs.irqEn.getLsbD 0 = true → s.regs.curCnt = 0 → s.regs.curSum = 0 →
    codes.length ≤ 1000 → s.ops = ticks codes ++ rest →
    ∃ t : State, Host.Core.run Sys2Proof.core (2 * codes.length) s = .next t ∧ t.ops = rest ∧
      if codes.length < 1000 then
        t.regs.curCnt.toNat = codes.length ∧ t.regs.curSum.toInt = sampleSum Config.params codes ∧
        t.regs.pubSeq = s.regs.pubSeq ∧ t.regs.pubCurrRaw = s.regs.pubCurrRaw ∧ t.regs.pubCurr = s.regs.pubCurr ∧
        t.regs.pubRpm = s.regs.pubRpm ∧ t.regs.drdy = s.regs.drdy
      else
        t.regs.curCnt = 0 ∧ t.regs.curSum = 0 ∧ t.regs.pubSeq = s.regs.pubSeq + 1 ∧ t.regs.drdy = true ∧
        t.regs.pubCurrRaw = Config.params.numRound ((sampleSum Config.params codes : ℚ) / 1000) ∧
        t.regs.pubCurr = Config.params.numRound ((sampleSum Config.params codes : ℚ) / 1000 * Config.params.curScaleNum /
          (2 * Config.params.curScaleDen))

/-- R301: on the eager schedule, from TICK_CNT = c the evaluation falls on the (LOOP_PERIOD - c)-th tick and on none
before it; it chooses the next loop period from the setpoint. It is the model's choice that MEAS_RPM takes the estimate
rounded once (notes/assumptions/4), and that an estimate is computed with a PT_REMAIN above PT_PERIOD, in a state that no
run reaches (notes/assumptions/6). -/
def Obligations.EvaluationFallsOnTheLoopPeriodTick : Prop :=
  ∀ (s : State) (codes : List AdcCode) (rest : List Word),
    let c := s.regs.tickCnt.toNat
    let period := s.regs.loopPeriod.toNat
    s.regs.run = true → s.regs.irqPend = 0 → s.regs.irqEn.getLsbD 0 = true → c < period → c + codes.length ≤ period →
    s.ops = ticks codes ++ rest →
    ∃ t : State, Host.Core.run Sys2Proof.core (2 * codes.length) s = .next t ∧ t.ops = rest ∧
      if c + codes.length < period then
        t.regs.tickCnt.toNat = c + codes.length ∧ t.regs.loopPeriod = s.regs.loopPeriod ∧
        t.regs.measRpm = s.regs.measRpm ∧ t.regs.iState = s.regs.iState ∧ t.regs.pidOut = s.regs.pidOut ∧
        t.regs.duty = s.regs.duty ∧ t.regs.pulseCnt = s.regs.pulseCnt
      else
        t.regs.tickCnt = 0 ∧ t.regs.loopPeriod = loopPeriod s.regs.setpoint ∧ t.regs.pulseCnt = 0 ∧
        t.regs.measRpm = (evaluated Config.params s.regs).measRpm ∧ t.regs.iState = (evaluated Config.params s.regs).iState ∧
        t.regs.pidOut = (evaluated Config.params s.regs).pidOut

/-! ## Arithmetic -/

/-- R23: the readback conversions, as signed numbers: Q16.16 by floor and int32 toward zero, both saturating. -/
def Obligations.ReadbackConversionsSaturate : Prop :=
  ∀ x : ℚ,
    (q16 x).toInt = (if x < -32768 then -2147483648 else if 32768 ≤ x then 2147483647 else ⌊x * 65536⌋) ∧
    (int32 x).toInt = max (-2147483648) (min 2147483647 (towardZero x))

/-- R260: the thresholds are strict, the result is one of four, and a higher setpoint never has a longer period. -/
def Obligations.LoopPeriodThresholdsAreStrict : Prop :=
  ∀ sp : BitVec 16,
    (loopPeriodFor sp = 30 ↔ 250 < sp.toNat) ∧ (loopPeriodFor sp = 40 ↔ 100 < sp.toNat ∧ sp.toNat ≤ 250) ∧
    (loopPeriodFor sp = 100 ↔ 50 < sp.toNat ∧ sp.toNat ≤ 100) ∧ (loopPeriodFor sp = 200 ↔ sp.toNat ≤ 50) ∧
    (∀ sp' : BitVec 16, sp.toNat ≤ sp'.toNat → (loopPeriodFor sp').toNat ≤ (loopPeriodFor sp).toNat)

/-- R241, R243, R245: one update of the controller for every legal configuration: the integrator stays within its bounds
whatever the rounding, the output uses the updated integrator and is not clamped, and no other register changes. -/
def Obligations.PidUpdateClampsTheIntegratorOnly : Prop :=
  ∀ (p : Params) (err : ℚ) (r : Regs),
    let i := max p.iMin (min p.iMax (p.numRound (r.iState + err)))
    pidUpdate p err r = (p.pGain * err + p.iGain * i, { r with iState := i }) ∧ p.iMin ≤ i ∧ i ≤ p.iMax

/-- R244: while no running sum of errors leaves the bounds, the integrator holds the whole sum and the last output is
P_GAIN times the last error plus I_GAIN times that sum (exact arithmetic). -/
def Obligations.UnclampedIntegratorHoldsTheSumOfErrors : Prop :=
  ∀ (p : Params) (errs : List ℚ) (last : ℚ) (out : ℚ) (r : Regs), p.numRound = id →
    (∀ k ≤ errs.length + 1, p.iMin ≤ r.iState + ((errs ++ [last]).take k).sum ∧
      r.iState + ((errs ++ [last]).take k).sum ≤ p.iMax) →
    (pidRun p (errs ++ [last]) (out, r)).2.iState = r.iState + (errs ++ [last]).sum ∧
    (pidRun p (errs ++ [last]) (out, r)).1 = p.pGain * last + p.iGain * (r.iState + (errs ++ [last]).sum)

/-- R207(d): in ADD_AND_CARRY mode with exact arithmetic, the fractions of consecutive estimates at one loop period
telescope. For a period of 0, or a PT_REMAIN above PT_PERIOD, which no run meets, it rests on notes/assumptions/6. -/
def Obligations.InterpolatedEstimatesTelescope : Prop :=
  ∀ (p : Params) (period : BitVec 16) (found : List (BitVec 32 × BitVec 32)) (last : BitVec 32 × BitVec 32) (r : Regs),
    p.numRound = id → p.rpmFractionMode = .addAndCarry → p.rpmScaleMode = .exact →
    (estimates p period (found ++ [last]) r).sum =
      1000 / period.toNat * ((((found ++ [last]).map (fun x => (x.1.toNat : ℚ))).sum + r.residue) +
        ((p.ptPeriod.toNat : ℚ) - last.2.toNat) / p.ptPeriod.toNat)

/-- R207(b), R47: with the default modes, a period without pulses has an estimate in (-1000/P, 0], and the carried residue
is in (-1, 0]. -/
def Obligations.EstimateWithoutPulsesIsNotPositive : Prop :=
  ∀ (p : Params) (period : BitVec 16) (r : Regs), p.numRound = id → p.rpmFractionMode = .carryOnly →
    p.rpmScaleMode = .exact → 0 < period.toNat → r.pulseCnt = 0 → -1 < r.residue → r.residue ≤ 0 →
    1 ≤ r.ptRemain.toNat → r.ptRemain.toNat ≤ p.ptPeriod.toNat →
    -(1000 / (period.toNat : ℚ)) < (rpmFinalize p period r).1 ∧ (rpmFinalize p period r).1 ≤ 0 ∧
    -1 < (rpmFinalize p period r).2.residue ∧ (rpmFinalize p period r).2.residue ≤ 0

/-- R103: on a byte-addressed bus the four bytes of a register are its bits in little-endian order. -/
def Obligations.WindowBytesAreLittleEndian : Prop :=
  ∀ (r : Regs) (offset : Offset), offset.toNat % 4 = 0 →
    windowByte r (offset + 3) ++ windowByte r (offset + 2) ++ windowByte r (offset + 1) ++ windowByte r offset =
      readback r offset
end

