-- ==== Sys2Proof/Laws/Decode.lean ====
section
/-! SUPPORT. The fields of a packed operation word as numbers, and the KIND table in both directions. -/

namespace Sys2Proof.Laws

theorem toNat_opWord (k : BitVec 8) (o : Offset) (d : HostWord) :
    (opWord k o d).toNat = k.toNat * 2 ^ 56 + o.toNat * 2 ^ 32 + d.toNat := by
  unfold opWord
  erw [BitVec.toNat_append]
  have hd := d.isLt
  have ho := o.isLt
  rw [BitVec.toNat_append, BitVec.toNat_append, ← Nat.shiftLeft_add_eq_or_of_lt d.isLt,
    ← Nat.shiftLeft_add_eq_or_of_lt (by simp [Nat.shiftLeft_eq]; omega),
    ← Nat.shiftLeft_add_eq_or_of_lt (by simp [Nat.shiftLeft_eq]; omega)]
  simp [Nat.shiftLeft_eq]
  omega

theorem toNat_kindField (w : Word) : (kindField w).toNat = w.toNat / 2 ^ 56 % 2 ^ 8 := by
  simp [kindField, BitVec.extractLsb'_toNat, Nat.shiftRight_eq_div_pow]

theorem toNat_rsvField (w : Word) : (rsvField w).toNat = w.toNat / 2 ^ 48 % 2 ^ 8 := by
  simp [rsvField, BitVec.extractLsb'_toNat, Nat.shiftRight_eq_div_pow]

theorem toNat_offsetField (w : Word) : (offsetField w).toNat = w.toNat / 2 ^ 32 % 2 ^ 16 := by
  simp [offsetField, BitVec.extractLsb'_toNat, Nat.shiftRight_eq_div_pow]

theorem toNat_dataField (w : Word) : (dataField w).toNat = w.toNat % 2 ^ 32 := by
  simp [dataField, BitVec.extractLsb'_toNat]

theorem toNat_adcField (d : HostWord) : (adcField d).toNat = d.toNat % 2 ^ 12 := by
  simp [adcField, BitVec.extractLsb'_toNat]

theorem toNat_adcReserved (d : HostWord) : (adcReserved d).toNat = d.toNat / 2 ^ 12 := by
  have := d.isLt
  simp [adcReserved, BitVec.extractLsb'_toNat, Nat.shiftRight_eq_div_pow]
  omega

@[simp] theorem kindField_opWord (k : BitVec 8) (o : Offset) (d : HostWord) : kindField (opWord k o d) = k := by
  apply BitVec.eq_of_toNat_eq
  rw [toNat_kindField, toNat_opWord]
  have := k.isLt; have := o.isLt; have := d.isLt
  omega

@[simp] theorem rsvField_opWord (k : BitVec 8) (o : Offset) (d : HostWord) : rsvField (opWord k o d) = 0 := by
  apply BitVec.eq_of_toNat_eq
  rw [toNat_rsvField, toNat_opWord]
  have := k.isLt; have := o.isLt; have := d.isLt
  simp; omega

@[simp] theorem offsetField_opWord (k : BitVec 8) (o : Offset) (d : HostWord) : offsetField (opWord k o d) = o := by
  apply BitVec.eq_of_toNat_eq
  rw [toNat_offsetField, toNat_opWord]
  have := k.isLt; have := o.isLt; have := d.isLt
  omega

@[simp] theorem dataField_opWord (k : BitVec 8) (o : Offset) (d : HostWord) : dataField (opWord k o d) = d := by
  apply BitVec.eq_of_toNat_eq
  rw [toNat_dataField, toNat_opWord]
  have := k.isLt; have := o.isLt; have := d.isLt
  omega

/-- A word whose RSV is 0 is packed from its own fields (R131). -/
theorem opWord_fields (w : Word) (h : rsvField w = 0) : opWord (kindField w) (offsetField w) (dataField w) = w := by
  apply BitVec.eq_of_toNat_eq
  have hr := congrArg BitVec.toNat h
  rw [toNat_rsvField] at hr
  rw [toNat_opWord, toNat_kindField, toNat_offsetField, toNat_dataField]
  have := w.isLt
  simp at hr
  omega

/-- The ADC code and the 20 bits above it are the whole DATA field (R131). -/
theorem adcField_setWidth_of_reserved (d : HostWord) (h : adcReserved d = 0) : (adcField d).setWidth 32 = d := by
  apply BitVec.eq_of_toNat_eq
  have hr := congrArg BitVec.toNat h
  rw [toNat_adcReserved] at hr
  rw [BitVec.toNat_setWidth, toNat_adcField]
  have := d.isLt
  simp at hr
  omega

@[simp] theorem adcField_setWidth (a : AdcCode) : adcField (a.setWidth 32) = a := by
  apply BitVec.eq_of_toNat_eq
  rw [toNat_adcField, BitVec.toNat_setWidth]
  have := a.isLt
  omega

@[simp] theorem adcReserved_setWidth (a : AdcCode) : adcReserved (a.setWidth 32) = 0 := by
  apply BitVec.eq_of_toNat_eq
  rw [toNat_adcReserved, BitVec.toNat_setWidth]
  have := a.isLt
  simp; omega

/-- The KIND table names each kind by its code (R133). -/
@[simp] theorem kindOf_code (k : Kind) : kindOf k.code = some k := by cases k <;> decide

/-- A KIND value that names a kind is that kind's code. -/
theorem code_of_kindOf {c : BitVec 8} {k : Kind} (h : kindOf c = some k) : k.code = c := by
  simpa using List.find?_some h

end Sys2Proof.Laws
end

