-- ==== Sys2Proof/Laws/State.lean ====
section
/-! SUPPORT. One lemma per field per update, true by rfl, so that no proof unfolds a record update: first the updates of
the whole state, then the updates of the registers that change the same fields whatever the state. -/

namespace Sys2Proof.Laws

open Sys2Proof.Machine

/-! ### The outcome OK -/

@[simp] theorem complete_regs (s : State) (r : Regs) : (complete s r).regs = r := rfl
@[simp] theorem complete_ops (s : State) (r : Regs) : (complete s r).ops = s.ops := rfl
@[simp] theorem complete_resp (s : State) (r : Regs) : (complete s r).resp = .ok := rfl

/-! ### The outcome OK(data) -/

@[simp] theorem completeRead_regs (s : State) (d : HostWord) : (completeRead s d).regs = s.regs := rfl
@[simp] theorem completeRead_ops (s : State) (d : HostWord) : (completeRead s d).ops = s.ops := rfl
@[simp] theorem completeRead_resp (s : State) (d : HostWord) : (completeRead s d).resp = .okData d := rfl

/-! ### An operation fault -/

@[simp] theorem raise_regs (e : Exc) (s : State) : (raise e s).regs = s.regs := rfl
@[simp] theorem raise_ops (e : Exc) (s : State) : (raise e s).ops = s.ops := rfl
@[simp] theorem raise_resp (e : Exc) (s : State) : (raise e s).resp = .exc e := rfl

/-! ### A word presented -/

@[simp] theorem present_regs (w : Word) (s : State) : (present w s).regs = s.regs := rfl
@[simp] theorem present_ops (w : Word) (s : State) : (present w s).ops = w :: s.ops := rfl
@[simp] theorem present_resp (w : Word) (s : State) : (present w s).resp = s.resp := rfl

/-! ### A pending bit cleared (R367) -/

@[simp] theorem clearPending_run (src : Source) (r : Regs) : (clearPending src r).run = r.run := rfl
@[simp] theorem clearPending_state (src : Source) (r : Regs) : (clearPending src r).state = r.state := rfl
@[simp] theorem clearPending_drdy (src : Source) (r : Regs) : (clearPending src r).drdy = r.drdy := rfl
@[simp] theorem clearPending_stalled (src : Source) (r : Regs) : (clearPending src r).stalled = r.stalled := rfl
@[simp] theorem clearPending_pwmPhaseOn (src : Source) (r : Regs) :
    (clearPending src r).pwmPhaseOn = r.pwmPhaseOn := rfl
@[simp] theorem clearPending_pwmLine (src : Source) (r : Regs) : (clearPending src r).pwmLine = r.pwmLine := rfl
@[simp] theorem clearPending_pwmRunning (src : Source) (r : Regs) :
    (clearPending src r).pwmRunning = r.pwmRunning := rfl
@[simp] theorem clearPending_setpoint (src : Source) (r : Regs) : (clearPending src r).setpoint = r.setpoint := rfl
@[simp] theorem clearPending_pwmPeriod (src : Source) (r : Regs) : (clearPending src r).pwmPeriod = r.pwmPeriod := rfl
@[simp] theorem clearPending_stallLimit (src : Source) (r : Regs) :
    (clearPending src r).stallLimit = r.stallLimit := rfl
@[simp] theorem clearPending_irqEn (src : Source) (r : Regs) : (clearPending src r).irqEn = r.irqEn := rfl
@[simp] theorem clearPending_irqPend (src : Source) (r : Regs) :
    (clearPending src r).irqPend = r.irqPend &&& ~~~ sourceBit src := rfl
@[simp] theorem clearPending_irqOvr (src : Source) (r : Regs) : (clearPending src r).irqOvr = r.irqOvr := rfl
@[simp] theorem clearPending_loopPeriod (src : Source) (r : Regs) :
    (clearPending src r).loopPeriod = r.loopPeriod := rfl
@[simp] theorem clearPending_tickCnt (src : Source) (r : Regs) : (clearPending src r).tickCnt = r.tickCnt := rfl
@[simp] theorem clearPending_pulseCnt (src : Source) (r : Regs) : (clearPending src r).pulseCnt = r.pulseCnt := rfl
@[simp] theorem clearPending_ptRemain (src : Source) (r : Regs) : (clearPending src r).ptRemain = r.ptRemain := rfl
@[simp] theorem clearPending_residue (src : Source) (r : Regs) : (clearPending src r).residue = r.residue := rfl
@[simp] theorem clearPending_measRpm (src : Source) (r : Regs) : (clearPending src r).measRpm = r.measRpm := rfl
@[simp] theorem clearPending_iState (src : Source) (r : Regs) : (clearPending src r).iState = r.iState := rfl
@[simp] theorem clearPending_pidOut (src : Source) (r : Regs) : (clearPending src r).pidOut = r.pidOut := rfl
@[simp] theorem clearPending_duty (src : Source) (r : Regs) : (clearPending src r).duty = r.duty := rfl
@[simp] theorem clearPending_pwmReload (src : Source) (r : Regs) : (clearPending src r).pwmReload = r.pwmReload := rfl
@[simp] theorem clearPending_pwmCount (src : Source) (r : Regs) : (clearPending src r).pwmCount = r.pwmCount := rfl
@[simp] theorem clearPending_curSum (src : Source) (r : Regs) : (clearPending src r).curSum = r.curSum := rfl
@[simp] theorem clearPending_curCnt (src : Source) (r : Regs) : (clearPending src r).curCnt = r.curCnt := rfl
@[simp] theorem clearPending_rpmSum (src : Source) (r : Regs) : (clearPending src r).rpmSum = r.rpmSum := rfl
@[simp] theorem clearPending_rpmCnt (src : Source) (r : Regs) : (clearPending src r).rpmCnt = r.rpmCnt := rfl
@[simp] theorem clearPending_pubRpm (src : Source) (r : Regs) : (clearPending src r).pubRpm = r.pubRpm := rfl
@[simp] theorem clearPending_pubCurr (src : Source) (r : Regs) : (clearPending src r).pubCurr = r.pubCurr := rfl
@[simp] theorem clearPending_pubCurrRaw (src : Source) (r : Regs) :
    (clearPending src r).pubCurrRaw = r.pubCurrRaw := rfl
@[simp] theorem clearPending_pubSeq (src : Source) (r : Regs) : (clearPending src r).pubSeq = r.pubSeq := rfl
@[simp] theorem clearPending_idleTicks (src : Source) (r : Regs) : (clearPending src r).idleTicks = r.idleTicks := rfl
@[simp] theorem clearPending_adcLatch (src : Source) (r : Regs) : (clearPending src r).adcLatch = r.adcLatch := rfl

/-! ### The stall state cleared -/

@[simp] theorem clearStall_run (r : Regs) : (clearStall r).run = r.run := rfl
@[simp] theorem clearStall_state (r : Regs) : (clearStall r).state = r.state := rfl
@[simp] theorem clearStall_drdy (r : Regs) : (clearStall r).drdy = r.drdy := rfl
@[simp] theorem clearStall_stalled (r : Regs) : (clearStall r).stalled = false := rfl
@[simp] theorem clearStall_pwmPhaseOn (r : Regs) : (clearStall r).pwmPhaseOn = r.pwmPhaseOn := rfl
@[simp] theorem clearStall_pwmLine (r : Regs) : (clearStall r).pwmLine = r.pwmLine := rfl
@[simp] theorem clearStall_pwmRunning (r : Regs) : (clearStall r).pwmRunning = r.pwmRunning := rfl
@[simp] theorem clearStall_setpoint (r : Regs) : (clearStall r).setpoint = r.setpoint := rfl
@[simp] theorem clearStall_pwmPeriod (r : Regs) : (clearStall r).pwmPeriod = r.pwmPeriod := rfl
@[simp] theorem clearStall_stallLimit (r : Regs) : (clearStall r).stallLimit = r.stallLimit := rfl
@[simp] theorem clearStall_irqEn (r : Regs) : (clearStall r).irqEn = r.irqEn := rfl
@[simp] theorem clearStall_irqPend (r : Regs) : (clearStall r).irqPend = r.irqPend := rfl
@[simp] theorem clearStall_irqOvr (r : Regs) : (clearStall r).irqOvr = r.irqOvr := rfl
@[simp] theorem clearStall_loopPeriod (r : Regs) : (clearStall r).loopPeriod = r.loopPeriod := rfl
@[simp] theorem clearStall_tickCnt (r : Regs) : (clearStall r).tickCnt = r.tickCnt := rfl
@[simp] theorem clearStall_pulseCnt (r : Regs) : (clearStall r).pulseCnt = r.pulseCnt := rfl
@[simp] theorem clearStall_ptRemain (r : Regs) : (clearStall r).ptRemain = r.ptRemain := rfl
@[simp] theorem clearStall_residue (r : Regs) : (clearStall r).residue = r.residue := rfl
@[simp] theorem clearStall_measRpm (r : Regs) : (clearStall r).measRpm = r.measRpm := rfl
@[simp] theorem clearStall_iState (r : Regs) : (clearStall r).iState = r.iState := rfl
@[simp] theorem clearStall_pidOut (r : Regs) : (clearStall r).pidOut = r.pidOut := rfl
@[simp] theorem clearStall_duty (r : Regs) : (clearStall r).duty = r.duty := rfl
@[simp] theorem clearStall_pwmReload (r : Regs) : (clearStall r).pwmReload = r.pwmReload := rfl
@[simp] theorem clearStall_pwmCount (r : Regs) : (clearStall r).pwmCount = r.pwmCount := rfl
@[simp] theorem clearStall_curSum (r : Regs) : (clearStall r).curSum = r.curSum := rfl
@[simp] theorem clearStall_curCnt (r : Regs) : (clearStall r).curCnt = r.curCnt := rfl
@[simp] theorem clearStall_rpmSum (r : Regs) : (clearStall r).rpmSum = r.rpmSum := rfl
@[simp] theorem clearStall_rpmCnt (r : Regs) : (clearStall r).rpmCnt = r.rpmCnt := rfl
@[simp] theorem clearStall_pubRpm (r : Regs) : (clearStall r).pubRpm = r.pubRpm := rfl
@[simp] theorem clearStall_pubCurr (r : Regs) : (clearStall r).pubCurr = r.pubCurr := rfl
@[simp] theorem clearStall_pubCurrRaw (r : Regs) : (clearStall r).pubCurrRaw = r.pubCurrRaw := rfl
@[simp] theorem clearStall_pubSeq (r : Regs) : (clearStall r).pubSeq = r.pubSeq := rfl
@[simp] theorem clearStall_idleTicks (r : Regs) : (clearStall r).idleTicks = 0 := rfl
@[simp] theorem clearStall_adcLatch (r : Regs) : (clearStall r).adcLatch = r.adcLatch := rfl

/-! ### The pulse timer restarted (R202) -/

@[simp] theorem ptRestart_run (p : Params) (r : Regs) : (ptRestart p r).run = r.run := rfl
@[simp] theorem ptRestart_state (p : Params) (r : Regs) : (ptRestart p r).state = r.state := rfl
@[simp] theorem ptRestart_drdy (p : Params) (r : Regs) : (ptRestart p r).drdy = r.drdy := rfl
@[simp] theorem ptRestart_stalled (p : Params) (r : Regs) : (ptRestart p r).stalled = r.stalled := rfl
@[simp] theorem ptRestart_pwmPhaseOn (p : Params) (r : Regs) : (ptRestart p r).pwmPhaseOn = r.pwmPhaseOn := rfl
@[simp] theorem ptRestart_pwmLine (p : Params) (r : Regs) : (ptRestart p r).pwmLine = r.pwmLine := rfl
@[simp] theorem ptRestart_pwmRunning (p : Params) (r : Regs) : (ptRestart p r).pwmRunning = r.pwmRunning := rfl
@[simp] theorem ptRestart_setpoint (p : Params) (r : Regs) : (ptRestart p r).setpoint = r.setpoint := rfl
@[simp] theorem ptRestart_pwmPeriod (p : Params) (r : Regs) : (ptRestart p r).pwmPeriod = r.pwmPeriod := rfl
@[simp] theorem ptRestart_stallLimit (p : Params) (r : Regs) : (ptRestart p r).stallLimit = r.stallLimit := rfl
@[simp] theorem ptRestart_irqEn (p : Params) (r : Regs) : (ptRestart p r).irqEn = r.irqEn := rfl
@[simp] theorem ptRestart_irqPend (p : Params) (r : Regs) : (ptRestart p r).irqPend = r.irqPend := rfl
@[simp] theorem ptRestart_irqOvr (p : Params) (r : Regs) : (ptRestart p r).irqOvr = r.irqOvr := rfl
@[simp] theorem ptRestart_loopPeriod (p : Params) (r : Regs) : (ptRestart p r).loopPeriod = r.loopPeriod := rfl
@[simp] theorem ptRestart_tickCnt (p : Params) (r : Regs) : (ptRestart p r).tickCnt = r.tickCnt := rfl
@[simp] theorem ptRestart_pulseCnt (p : Params) (r : Regs) : (ptRestart p r).pulseCnt = r.pulseCnt := rfl
@[simp] theorem ptRestart_ptRemain (p : Params) (r : Regs) : (ptRestart p r).ptRemain = p.ptPeriod := rfl
@[simp] theorem ptRestart_residue (p : Params) (r : Regs) : (ptRestart p r).residue = r.residue := rfl
@[simp] theorem ptRestart_measRpm (p : Params) (r : Regs) : (ptRestart p r).measRpm = r.measRpm := rfl
@[simp] theorem ptRestart_iState (p : Params) (r : Regs) : (ptRestart p r).iState = r.iState := rfl
@[simp] theorem ptRestart_pidOut (p : Params) (r : Regs) : (ptRestart p r).pidOut = r.pidOut := rfl
@[simp] theorem ptRestart_duty (p : Params) (r : Regs) : (ptRestart p r).duty = r.duty := rfl
@[simp] theorem ptRestart_pwmReload (p : Params) (r : Regs) : (ptRestart p r).pwmReload = r.pwmReload := rfl
@[simp] theorem ptRestart_pwmCount (p : Params) (r : Regs) : (ptRestart p r).pwmCount = r.pwmCount := rfl
@[simp] theorem ptRestart_curSum (p : Params) (r : Regs) : (ptRestart p r).curSum = r.curSum := rfl
@[simp] theorem ptRestart_curCnt (p : Params) (r : Regs) : (ptRestart p r).curCnt = r.curCnt := rfl
@[simp] theorem ptRestart_rpmSum (p : Params) (r : Regs) : (ptRestart p r).rpmSum = r.rpmSum := rfl
@[simp] theorem ptRestart_rpmCnt (p : Params) (r : Regs) : (ptRestart p r).rpmCnt = r.rpmCnt := rfl
@[simp] theorem ptRestart_pubRpm (p : Params) (r : Regs) : (ptRestart p r).pubRpm = r.pubRpm := rfl
@[simp] theorem ptRestart_pubCurr (p : Params) (r : Regs) : (ptRestart p r).pubCurr = r.pubCurr := rfl
@[simp] theorem ptRestart_pubCurrRaw (p : Params) (r : Regs) : (ptRestart p r).pubCurrRaw = r.pubCurrRaw := rfl
@[simp] theorem ptRestart_pubSeq (p : Params) (r : Regs) : (ptRestart p r).pubSeq = r.pubSeq := rfl
@[simp] theorem ptRestart_idleTicks (p : Params) (r : Regs) : (ptRestart p r).idleTicks = r.idleTicks := rfl
@[simp] theorem ptRestart_adcLatch (p : Params) (r : Regs) : (ptRestart p r).adcLatch = r.adcLatch := rfl

/-! ### The pulse timer clocked (R201) -/

@[simp] theorem ptClock_run (p : Params) (r : Regs) : (ptClock p r).run = r.run := rfl
@[simp] theorem ptClock_state (p : Params) (r : Regs) : (ptClock p r).state = r.state := rfl
@[simp] theorem ptClock_drdy (p : Params) (r : Regs) : (ptClock p r).drdy = r.drdy := rfl
@[simp] theorem ptClock_stalled (p : Params) (r : Regs) : (ptClock p r).stalled = r.stalled := rfl
@[simp] theorem ptClock_pwmPhaseOn (p : Params) (r : Regs) : (ptClock p r).pwmPhaseOn = r.pwmPhaseOn := rfl
@[simp] theorem ptClock_pwmLine (p : Params) (r : Regs) : (ptClock p r).pwmLine = r.pwmLine := rfl
@[simp] theorem ptClock_pwmRunning (p : Params) (r : Regs) : (ptClock p r).pwmRunning = r.pwmRunning := rfl
@[simp] theorem ptClock_setpoint (p : Params) (r : Regs) : (ptClock p r).setpoint = r.setpoint := rfl
@[simp] theorem ptClock_pwmPeriod (p : Params) (r : Regs) : (ptClock p r).pwmPeriod = r.pwmPeriod := rfl
@[simp] theorem ptClock_stallLimit (p : Params) (r : Regs) : (ptClock p r).stallLimit = r.stallLimit := rfl
@[simp] theorem ptClock_irqEn (p : Params) (r : Regs) : (ptClock p r).irqEn = r.irqEn := rfl
@[simp] theorem ptClock_irqPend (p : Params) (r : Regs) : (ptClock p r).irqPend = r.irqPend := rfl
@[simp] theorem ptClock_irqOvr (p : Params) (r : Regs) : (ptClock p r).irqOvr = r.irqOvr := rfl
@[simp] theorem ptClock_loopPeriod (p : Params) (r : Regs) : (ptClock p r).loopPeriod = r.loopPeriod := rfl
@[simp] theorem ptClock_tickCnt (p : Params) (r : Regs) : (ptClock p r).tickCnt = r.tickCnt := rfl
@[simp] theorem ptClock_pulseCnt (p : Params) (r : Regs) : (ptClock p r).pulseCnt = r.pulseCnt := rfl
@[simp] theorem ptClock_ptRemain (p : Params) (r : Regs) :
    (ptClock p r).ptRemain = if 1 < r.ptRemain.toNat then r.ptRemain - 1 else p.ptPeriod := rfl
@[simp] theorem ptClock_residue (p : Params) (r : Regs) : (ptClock p r).residue = r.residue := rfl
@[simp] theorem ptClock_measRpm (p : Params) (r : Regs) : (ptClock p r).measRpm = r.measRpm := rfl
@[simp] theorem ptClock_iState (p : Params) (r : Regs) : (ptClock p r).iState = r.iState := rfl
@[simp] theorem ptClock_pidOut (p : Params) (r : Regs) : (ptClock p r).pidOut = r.pidOut := rfl
@[simp] theorem ptClock_duty (p : Params) (r : Regs) : (ptClock p r).duty = r.duty := rfl
@[simp] theorem ptClock_pwmReload (p : Params) (r : Regs) : (ptClock p r).pwmReload = r.pwmReload := rfl
@[simp] theorem ptClock_pwmCount (p : Params) (r : Regs) : (ptClock p r).pwmCount = r.pwmCount := rfl
@[simp] theorem ptClock_curSum (p : Params) (r : Regs) : (ptClock p r).curSum = r.curSum := rfl
@[simp] theorem ptClock_curCnt (p : Params) (r : Regs) : (ptClock p r).curCnt = r.curCnt := rfl
@[simp] theorem ptClock_rpmSum (p : Params) (r : Regs) : (ptClock p r).rpmSum = r.rpmSum := rfl
@[simp] theorem ptClock_rpmCnt (p : Params) (r : Regs) : (ptClock p r).rpmCnt = r.rpmCnt := rfl
@[simp] theorem ptClock_pubRpm (p : Params) (r : Regs) : (ptClock p r).pubRpm = r.pubRpm := rfl
@[simp] theorem ptClock_pubCurr (p : Params) (r : Regs) : (ptClock p r).pubCurr = r.pubCurr := rfl
@[simp] theorem ptClock_pubCurrRaw (p : Params) (r : Regs) : (ptClock p r).pubCurrRaw = r.pubCurrRaw := rfl
@[simp] theorem ptClock_pubSeq (p : Params) (r : Regs) : (ptClock p r).pubSeq = r.pubSeq := rfl
@[simp] theorem ptClock_idleTicks (p : Params) (r : Regs) : (ptClock p r).idleTicks = r.idleTicks := rfl
@[simp] theorem ptClock_adcLatch (p : Params) (r : Regs) : (ptClock p r).adcLatch = r.adcLatch := rfl

/-! ### A tick counted (R300) -/

@[simp] theorem countTick_run (r : Regs) : (countTick r).run = r.run := rfl
@[simp] theorem countTick_state (r : Regs) : (countTick r).state = r.state := rfl
@[simp] theorem countTick_drdy (r : Regs) : (countTick r).drdy = r.drdy := rfl
@[simp] theorem countTick_stalled (r : Regs) :
    (countTick r).stalled = stallDetected r.stallLimit (nextIdleTicks r.idleTicks) := rfl
@[simp] theorem countTick_pwmPhaseOn (r : Regs) : (countTick r).pwmPhaseOn = r.pwmPhaseOn := rfl
@[simp] theorem countTick_pwmLine (r : Regs) : (countTick r).pwmLine = r.pwmLine := rfl
@[simp] theorem countTick_pwmRunning (r : Regs) : (countTick r).pwmRunning = r.pwmRunning := rfl
@[simp] theorem countTick_setpoint (r : Regs) : (countTick r).setpoint = r.setpoint := rfl
@[simp] theorem countTick_pwmPeriod (r : Regs) : (countTick r).pwmPeriod = r.pwmPeriod := rfl
@[simp] theorem countTick_stallLimit (r : Regs) : (countTick r).stallLimit = r.stallLimit := rfl
@[simp] theorem countTick_irqEn (r : Regs) : (countTick r).irqEn = r.irqEn := rfl
@[simp] theorem countTick_irqPend (r : Regs) : (countTick r).irqPend = r.irqPend := rfl
@[simp] theorem countTick_irqOvr (r : Regs) : (countTick r).irqOvr = r.irqOvr := rfl
@[simp] theorem countTick_loopPeriod (r : Regs) : (countTick r).loopPeriod = r.loopPeriod := rfl
@[simp] theorem countTick_tickCnt (r : Regs) : (countTick r).tickCnt = r.tickCnt + 1 := rfl
@[simp] theorem countTick_pulseCnt (r : Regs) : (countTick r).pulseCnt = r.pulseCnt := rfl
@[simp] theorem countTick_ptRemain (r : Regs) : (countTick r).ptRemain = r.ptRemain := rfl
@[simp] theorem countTick_residue (r : Regs) : (countTick r).residue = r.residue := rfl
@[simp] theorem countTick_measRpm (r : Regs) : (countTick r).measRpm = r.measRpm := rfl
@[simp] theorem countTick_iState (r : Regs) : (countTick r).iState = r.iState := rfl
@[simp] theorem countTick_pidOut (r : Regs) : (countTick r).pidOut = r.pidOut := rfl
@[simp] theorem countTick_duty (r : Regs) : (countTick r).duty = r.duty := rfl
@[simp] theorem countTick_pwmReload (r : Regs) : (countTick r).pwmReload = r.pwmReload := rfl
@[simp] theorem countTick_pwmCount (r : Regs) : (countTick r).pwmCount = r.pwmCount := rfl
@[simp] theorem countTick_curSum (r : Regs) : (countTick r).curSum = r.curSum := rfl
@[simp] theorem countTick_curCnt (r : Regs) : (countTick r).curCnt = r.curCnt := rfl
@[simp] theorem countTick_rpmSum (r : Regs) : (countTick r).rpmSum = r.rpmSum := rfl
@[simp] theorem countTick_rpmCnt (r : Regs) : (countTick r).rpmCnt = r.rpmCnt := rfl
@[simp] theorem countTick_pubRpm (r : Regs) : (countTick r).pubRpm = r.pubRpm := rfl
@[simp] theorem countTick_pubCurr (r : Regs) : (countTick r).pubCurr = r.pubCurr := rfl
@[simp] theorem countTick_pubCurrRaw (r : Regs) : (countTick r).pubCurrRaw = r.pubCurrRaw := rfl
@[simp] theorem countTick_pubSeq (r : Regs) : (countTick r).pubSeq = r.pubSeq := rfl
@[simp] theorem countTick_idleTicks (r : Regs) : (countTick r).idleTicks = nextIdleTicks r.idleTicks := rfl
@[simp] theorem countTick_adcLatch (r : Regs) : (countTick r).adcLatch = r.adcLatch := rfl

/-! ### A sample accumulated (R221) -/

@[simp] theorem curAccumulate_run (p : Params) (a : AdcCode) (r : Regs) : (curAccumulate p a r).run = r.run := rfl
@[simp] theorem curAccumulate_state (p : Params) (a : AdcCode) (r : Regs) :
    (curAccumulate p a r).state = r.state := rfl
@[simp] theorem curAccumulate_drdy (p : Params) (a : AdcCode) (r : Regs) : (curAccumulate p a r).drdy = r.drdy := rfl
@[simp] theorem curAccumulate_stalled (p : Params) (a : AdcCode) (r : Regs) :
    (curAccumulate p a r).stalled = r.stalled := rfl
@[simp] theorem curAccumulate_pwmPhaseOn (p : Params) (a : AdcCode) (r : Regs) :
    (curAccumulate p a r).pwmPhaseOn = r.pwmPhaseOn := rfl
@[simp] theorem curAccumulate_pwmLine (p : Params) (a : AdcCode) (r : Regs) :
    (curAccumulate p a r).pwmLine = r.pwmLine := rfl
@[simp] theorem curAccumulate_pwmRunning (p : Params) (a : AdcCode) (r : Regs) :
    (curAccumulate p a r).pwmRunning = r.pwmRunning := rfl
@[simp] theorem curAccumulate_setpoint (p : Params) (a : AdcCode) (r : Regs) :
    (curAccumulate p a r).setpoint = r.setpoint := rfl
@[simp] theorem curAccumulate_pwmPeriod (p : Params) (a : AdcCode) (r : Regs) :
    (curAccumulate p a r).pwmPeriod = r.pwmPeriod := rfl
@[simp] theorem curAccumulate_stallLimit (p : Params) (a : AdcCode) (r : Regs) :
    (curAccumulate p a r).stallLimit = r.stallLimit := rfl
@[simp] theorem curAccumulate_irqEn (p : Params) (a : AdcCode) (r : Regs) :
    (curAccumulate p a r).irqEn = r.irqEn := rfl
@[simp] theorem curAccumulate_irqPend (p : Params) (a : AdcCode) (r : Regs) :
    (curAccumulate p a r).irqPend = r.irqPend := rfl
@[simp] theorem curAccumulate_irqOvr (p : Params) (a : AdcCode) (r : Regs) :
    (curAccumulate p a r).irqOvr = r.irqOvr := rfl
@[simp] theorem curAccumulate_loopPeriod (p : Params) (a : AdcCode) (r : Regs) :
    (curAccumulate p a r).loopPeriod = r.loopPeriod := rfl
@[simp] theorem curAccumulate_tickCnt (p : Params) (a : AdcCode) (r : Regs) :
    (curAccumulate p a r).tickCnt = r.tickCnt := rfl
@[simp] theorem curAccumulate_pulseCnt (p : Params) (a : AdcCode) (r : Regs) :
    (curAccumulate p a r).pulseCnt = r.pulseCnt := rfl
@[simp] theorem curAccumulate_ptRemain (p : Params) (a : AdcCode) (r : Regs) :
    (curAccumulate p a r).ptRemain = r.ptRemain := rfl
@[simp] theorem curAccumulate_residue (p : Params) (a : AdcCode) (r : Regs) :
    (curAccumulate p a r).residue = r.residue := rfl
@[simp] theorem curAccumulate_measRpm (p : Params) (a : AdcCode) (r : Regs) :
    (curAccumulate p a r).measRpm = r.measRpm := rfl
@[simp] theorem curAccumulate_iState (p : Params) (a : AdcCode) (r : Regs) :
    (curAccumulate p a r).iState = r.iState := rfl
@[simp] theorem curAccumulate_pidOut (p : Params) (a : AdcCode) (r : Regs) :
    (curAccumulate p a r).pidOut = r.pidOut := rfl
@[simp] theorem curAccumulate_duty (p : Params) (a : AdcCode) (r : Regs) : (curAccumulate p a r).duty = r.duty := rfl
@[simp] theorem curAccumulate_pwmReload (p : Params) (a : AdcCode) (r : Regs) :
    (curAccumulate p a r).pwmReload = r.pwmReload := rfl
@[simp] theorem curAccumulate_pwmCount (p : Params) (a : AdcCode) (r : Regs) :
    (curAccumulate p a r).pwmCount = r.pwmCount := rfl
@[simp] theorem curAccumulate_curSum (p : Params) (a : AdcCode) (r : Regs) :
    (curAccumulate p a r).curSum = wrap 32 (r.curSum.toInt + ((a.toNat : ℤ) - (p.adcOffset.toNat : ℤ))) := rfl
@[simp] theorem curAccumulate_curCnt (p : Params) (a : AdcCode) (r : Regs) :
    (curAccumulate p a r).curCnt = r.curCnt + 1 := rfl
@[simp] theorem curAccumulate_rpmSum (p : Params) (a : AdcCode) (r : Regs) :
    (curAccumulate p a r).rpmSum = r.rpmSum := rfl
@[simp] theorem curAccumulate_rpmCnt (p : Params) (a : AdcCode) (r : Regs) :
    (curAccumulate p a r).rpmCnt = r.rpmCnt := rfl
@[simp] theorem curAccumulate_pubRpm (p : Params) (a : AdcCode) (r : Regs) :
    (curAccumulate p a r).pubRpm = r.pubRpm := rfl
@[simp] theorem curAccumulate_pubCurr (p : Params) (a : AdcCode) (r : Regs) :
    (curAccumulate p a r).pubCurr = r.pubCurr := rfl
@[simp] theorem curAccumulate_pubCurrRaw (p : Params) (a : AdcCode) (r : Regs) :
    (curAccumulate p a r).pubCurrRaw = r.pubCurrRaw := rfl
@[simp] theorem curAccumulate_pubSeq (p : Params) (a : AdcCode) (r : Regs) :
    (curAccumulate p a r).pubSeq = r.pubSeq := rfl
@[simp] theorem curAccumulate_idleTicks (p : Params) (a : AdcCode) (r : Regs) :
    (curAccumulate p a r).idleTicks = r.idleTicks := rfl
@[simp] theorem curAccumulate_adcLatch (p : Params) (a : AdcCode) (r : Regs) :
    (curAccumulate p a r).adcLatch = r.adcLatch := rfl

/-! ### The current window closed (R222) -/

@[simp] theorem curClose_run (p : Params) (r : Regs) : (curClose p r).run = r.run := rfl
@[simp] theorem curClose_state (p : Params) (r : Regs) : (curClose p r).state = r.state := rfl
@[simp] theorem curClose_drdy (p : Params) (r : Regs) : (curClose p r).drdy = r.drdy := rfl
@[simp] theorem curClose_stalled (p : Params) (r : Regs) : (curClose p r).stalled = r.stalled := rfl
@[simp] theorem curClose_pwmPhaseOn (p : Params) (r : Regs) : (curClose p r).pwmPhaseOn = r.pwmPhaseOn := rfl
@[simp] theorem curClose_pwmLine (p : Params) (r : Regs) : (curClose p r).pwmLine = r.pwmLine := rfl
@[simp] theorem curClose_pwmRunning (p : Params) (r : Regs) : (curClose p r).pwmRunning = r.pwmRunning := rfl
@[simp] theorem curClose_setpoint (p : Params) (r : Regs) : (curClose p r).setpoint = r.setpoint := rfl
@[simp] theorem curClose_pwmPeriod (p : Params) (r : Regs) : (curClose p r).pwmPeriod = r.pwmPeriod := rfl
@[simp] theorem curClose_stallLimit (p : Params) (r : Regs) : (curClose p r).stallLimit = r.stallLimit := rfl
@[simp] theorem curClose_irqEn (p : Params) (r : Regs) : (curClose p r).irqEn = r.irqEn := rfl
@[simp] theorem curClose_irqPend (p : Params) (r : Regs) : (curClose p r).irqPend = r.irqPend := rfl
@[simp] theorem curClose_irqOvr (p : Params) (r : Regs) : (curClose p r).irqOvr = r.irqOvr := rfl
@[simp] theorem curClose_loopPeriod (p : Params) (r : Regs) : (curClose p r).loopPeriod = r.loopPeriod := rfl
@[simp] theorem curClose_tickCnt (p : Params) (r : Regs) : (curClose p r).tickCnt = r.tickCnt := rfl
@[simp] theorem curClose_pulseCnt (p : Params) (r : Regs) : (curClose p r).pulseCnt = r.pulseCnt := rfl
@[simp] theorem curClose_ptRemain (p : Params) (r : Regs) : (curClose p r).ptRemain = r.ptRemain := rfl
@[simp] theorem curClose_residue (p : Params) (r : Regs) : (curClose p r).residue = r.residue := rfl
@[simp] theorem curClose_measRpm (p : Params) (r : Regs) : (curClose p r).measRpm = r.measRpm := rfl
@[simp] theorem curClose_iState (p : Params) (r : Regs) : (curClose p r).iState = r.iState := rfl
@[simp] theorem curClose_pidOut (p : Params) (r : Regs) : (curClose p r).pidOut = r.pidOut := rfl
@[simp] theorem curClose_duty (p : Params) (r : Regs) : (curClose p r).duty = r.duty := rfl
@[simp] theorem curClose_pwmReload (p : Params) (r : Regs) : (curClose p r).pwmReload = r.pwmReload := rfl
@[simp] theorem curClose_pwmCount (p : Params) (r : Regs) : (curClose p r).pwmCount = r.pwmCount := rfl
@[simp] theorem curClose_curSum (p : Params) (r : Regs) : (curClose p r).curSum = 0 := rfl
@[simp] theorem curClose_curCnt (p : Params) (r : Regs) : (curClose p r).curCnt = 0 := rfl
@[simp] theorem curClose_rpmSum (p : Params) (r : Regs) : (curClose p r).rpmSum = r.rpmSum := rfl
@[simp] theorem curClose_rpmCnt (p : Params) (r : Regs) : (curClose p r).rpmCnt = r.rpmCnt := rfl
@[simp] theorem curClose_pubRpm (p : Params) (r : Regs) : (curClose p r).pubRpm = r.pubRpm := rfl
@[simp] theorem curClose_pubCurr (p : Params) (r : Regs) :
    (curClose p r).pubCurr = rnd p ((r.curSum.toInt : ℚ) / 1000 * p.curScaleNum / (2 * p.curScaleDen)) := rfl
@[simp] theorem curClose_pubCurrRaw (p : Params) (r : Regs) :
    (curClose p r).pubCurrRaw = rnd p ((r.curSum.toInt : ℚ) / 1000) := rfl
@[simp] theorem curClose_pubSeq (p : Params) (r : Regs) : (curClose p r).pubSeq = r.pubSeq := rfl
@[simp] theorem curClose_idleTicks (p : Params) (r : Regs) : (curClose p r).idleTicks = r.idleTicks := rfl
@[simp] theorem curClose_adcLatch (p : Params) (r : Regs) : (curClose p r).adcLatch = r.adcLatch := rfl

/-! ### An estimate recorded (R303, R304) -/

@[simp] theorem recordRpm_run (p : Params) (x : ℚ) (r : Regs) : (recordRpm p x r).run = r.run := rfl
@[simp] theorem recordRpm_state (p : Params) (x : ℚ) (r : Regs) : (recordRpm p x r).state = r.state := rfl
@[simp] theorem recordRpm_drdy (p : Params) (x : ℚ) (r : Regs) : (recordRpm p x r).drdy = r.drdy := rfl
@[simp] theorem recordRpm_stalled (p : Params) (x : ℚ) (r : Regs) : (recordRpm p x r).stalled = r.stalled := rfl
@[simp] theorem recordRpm_pwmPhaseOn (p : Params) (x : ℚ) (r : Regs) :
    (recordRpm p x r).pwmPhaseOn = r.pwmPhaseOn := rfl
@[simp] theorem recordRpm_pwmLine (p : Params) (x : ℚ) (r : Regs) : (recordRpm p x r).pwmLine = r.pwmLine := rfl
@[simp] theorem recordRpm_pwmRunning (p : Params) (x : ℚ) (r : Regs) :
    (recordRpm p x r).pwmRunning = r.pwmRunning := rfl
@[simp] theorem recordRpm_setpoint (p : Params) (x : ℚ) (r : Regs) : (recordRpm p x r).setpoint = r.setpoint := rfl
@[simp] theorem recordRpm_pwmPeriod (p : Params) (x : ℚ) (r : Regs) : (recordRpm p x r).pwmPeriod = r.pwmPeriod := rfl
@[simp] theorem recordRpm_stallLimit (p : Params) (x : ℚ) (r : Regs) :
    (recordRpm p x r).stallLimit = r.stallLimit := rfl
@[simp] theorem recordRpm_irqEn (p : Params) (x : ℚ) (r : Regs) : (recordRpm p x r).irqEn = r.irqEn := rfl
@[simp] theorem recordRpm_irqPend (p : Params) (x : ℚ) (r : Regs) : (recordRpm p x r).irqPend = r.irqPend := rfl
@[simp] theorem recordRpm_irqOvr (p : Params) (x : ℚ) (r : Regs) : (recordRpm p x r).irqOvr = r.irqOvr := rfl
@[simp] theorem recordRpm_loopPeriod (p : Params) (x : ℚ) (r : Regs) :
    (recordRpm p x r).loopPeriod = r.loopPeriod := rfl
@[simp] theorem recordRpm_tickCnt (p : Params) (x : ℚ) (r : Regs) : (recordRpm p x r).tickCnt = r.tickCnt := rfl
@[simp] theorem recordRpm_pulseCnt (p : Params) (x : ℚ) (r : Regs) : (recordRpm p x r).pulseCnt = r.pulseCnt := rfl
@[simp] theorem recordRpm_ptRemain (p : Params) (x : ℚ) (r : Regs) : (recordRpm p x r).ptRemain = r.ptRemain := rfl
@[simp] theorem recordRpm_residue (p : Params) (x : ℚ) (r : Regs) : (recordRpm p x r).residue = r.residue := rfl
@[simp] theorem recordRpm_measRpm (p : Params) (x : ℚ) (r : Regs) : (recordRpm p x r).measRpm = x := rfl
@[simp] theorem recordRpm_iState (p : Params) (x : ℚ) (r : Regs) : (recordRpm p x r).iState = r.iState := rfl
@[simp] theorem recordRpm_pidOut (p : Params) (x : ℚ) (r : Regs) : (recordRpm p x r).pidOut = r.pidOut := rfl
@[simp] theorem recordRpm_duty (p : Params) (x : ℚ) (r : Regs) : (recordRpm p x r).duty = r.duty := rfl
@[simp] theorem recordRpm_pwmReload (p : Params) (x : ℚ) (r : Regs) : (recordRpm p x r).pwmReload = r.pwmReload := rfl
@[simp] theorem recordRpm_pwmCount (p : Params) (x : ℚ) (r : Regs) : (recordRpm p x r).pwmCount = r.pwmCount := rfl
@[simp] theorem recordRpm_curSum (p : Params) (x : ℚ) (r : Regs) : (recordRpm p x r).curSum = r.curSum := rfl
@[simp] theorem recordRpm_curCnt (p : Params) (x : ℚ) (r : Regs) : (recordRpm p x r).curCnt = r.curCnt := rfl
@[simp] theorem recordRpm_rpmSum (p : Params) (x : ℚ) (r : Regs) :
    (recordRpm p x r).rpmSum = rnd p (r.rpmSum + x) := rfl
@[simp] theorem recordRpm_rpmCnt (p : Params) (x : ℚ) (r : Regs) : (recordRpm p x r).rpmCnt = r.rpmCnt + 1 := rfl
@[simp] theorem recordRpm_pubRpm (p : Params) (x : ℚ) (r : Regs) : (recordRpm p x r).pubRpm = r.pubRpm := rfl
@[simp] theorem recordRpm_pubCurr (p : Params) (x : ℚ) (r : Regs) : (recordRpm p x r).pubCurr = r.pubCurr := rfl
@[simp] theorem recordRpm_pubCurrRaw (p : Params) (x : ℚ) (r : Regs) :
    (recordRpm p x r).pubCurrRaw = r.pubCurrRaw := rfl
@[simp] theorem recordRpm_pubSeq (p : Params) (x : ℚ) (r : Regs) : (recordRpm p x r).pubSeq = r.pubSeq := rfl
@[simp] theorem recordRpm_idleTicks (p : Params) (x : ℚ) (r : Regs) : (recordRpm p x r).idleTicks = r.idleTicks := rfl
@[simp] theorem recordRpm_adcLatch (p : Params) (x : ℚ) (r : Regs) : (recordRpm p x r).adcLatch = r.adcLatch := rfl

end Sys2Proof.Laws
end

