-- ==== Sys2Proof/Laws/Ops.lean ====
section
/-! SUPPORT. What each shared operation can do, said once: a proof cites these instead of unfolding the operation. -/

namespace Sys2Proof.Laws

open Sys2Proof.Machine

/-! ### Numbers -/

theorem clamp_mem {x lo hi : ℚ} (h : lo ≤ hi) : lo ≤ clamp x lo hi ∧ clamp x lo hi ≤ hi := by
  unfold clamp
  split_ifs with h1 h2
  · exact ⟨le_rfl, h⟩
  · exact ⟨h, le_rfl⟩
  · exact ⟨not_lt.1 h1, not_lt.1 h2⟩

theorem clamp_eq_max_min {x lo hi : ℚ} (h : lo ≤ hi) : clamp x lo hi = max lo (min hi x) := by
  unfold clamp
  split_ifs with h1 h2
  · rw [min_eq_right (h1.le.trans h), max_eq_left h1.le]
  · rw [min_eq_left h2.le, max_eq_right h]
  · rw [min_eq_right (not_lt.1 h2), max_eq_right (not_lt.1 h1)]

theorem iMin_le_iMax (p : Params) : p.iMin ≤ p.iMax := p.iMin_nonpos.trans p.iMax_nonneg

theorem ptPeriod_pos (p : Params) : 0 < p.ptPeriod.toNat :=
  Nat.pos_of_ne_zero fun h => p.ptPeriod_ne_zero (BitVec.eq_of_toNat_eq (by simpa using h))

/-- Narrowing to a register keeps the value of an integer that fits it. -/
theorem wrap_toInt {v : ℤ} (h1 : -2 ^ 31 ≤ v) (h2 : v < 2 ^ 31) : (wrap 32 v).toInt = v := by
  rw [wrap, BitVec.toInt_ofInt]
  exact Int.bmod_eq_of_le (by omega) (by omega)

/-- One sample is added exactly while the window holds at most 999 samples of magnitude at most 4095 (R221, R54). -/
theorem curAccumulate_toInt {p : Params} {a : AdcCode} {r : Regs} (hs : r.CurSumBounded) (hc : r.curCnt.toNat < 1000) :
    (curAccumulate p a r).curSum.toInt = r.curSum.toInt + ((a.toNat : ℤ) - (p.adcOffset.toNat : ℤ)) := by
  have := abs_le.1 hs
  have := a.isLt
  have := p.adcOffset.isLt
  exact wrap_toInt (by omega) (by omega)

/-! ### Accesses -/

/-- The common check passes exactly on the aligned offsets of the window (R160). -/
theorem checkAccess_eq_none {o : Offset} : checkAccess o = none ↔ o.toNat < 0x1000 ∧ o.toNat % 4 = 0 := by
  have h1 : o.extractLsb' 12 4 = 0 ↔ o.toNat < 0x1000 := by
    rw [← BitVec.toNat_inj]
    have := o.isLt
    simp [BitVec.extractLsb'_toNat, Nat.shiftRight_eq_div_pow]; omega
  have h2 : o.extractLsb' 0 2 = 0 ↔ o.toNat % 4 = 0 := by
    rw [← BitVec.toNat_inj]; simp [BitVec.extractLsb'_toNat]
  rw [← h1, ← h2]
  unfold checkAccess
  by_cases a : o.extractLsb' 12 4 = 0
  · by_cases b : o.extractLsb' 0 2 = 0
    · rw [if_neg (not_not.2 a), if_neg (not_not.2 b)]; exact ⟨fun _ => ⟨a, b⟩, fun _ => rfl⟩
    · rw [if_neg (not_not.2 a), if_pos b]; exact ⟨fun h => (nomatch h), fun h => absurd h.2 b⟩
  · rw [if_pos a]; exact ⟨fun h => (nomatch h), fun h => absurd h.1 a⟩

/-! ### Interrupt bits -/

/-- A request sets the pending bit, or the overrun bit where the source is already pending, and nothing else (R365). -/
theorem setPending_eq (src : Source) (r : Regs) :
    setPending src r = { r with
      irqPend := r.irqPend ||| sourceBit src
      irqOvr := if pending src r then r.irqOvr ||| sourceBit src else r.irqOvr } := by
  have key : ∀ x : BitVec 4, x.getLsbD (sourceIndex src) = true → x ||| sourceBit src = x := by
    cases src <;> decide
  unfold setPending
  split_ifs with h
  · rw [key r.irqPend h]
  · rfl

/-- Start and stop keep the pending bit of BTN alone (R164, R165). -/
theorem clearLoopPending_eq (r : Regs) : clearLoopPending r = { r with irqPend := r.irqPend &&& 8 } := by
  have key : ∀ x : BitVec 4,
      x &&& ~~~ sourceBit .tick &&& ~~~ sourceBit .pwm &&& ~~~ sourceBit .pulse = x &&& 8 := by decide
  change { r with irqPend := r.irqPend &&& ~~~ sourceBit .tick &&& ~~~ sourceBit .pwm &&& ~~~ sourceBit .pulse } = _
  rw [key]

/-- The choice of a source: one that is pending and enabled, with none of lower number (R366). -/
theorem select_eq_some {r : Regs} {src : Source} (h : select r = some src) :
    pending src r = true ∧ enabled src r = true ∧
      ∀ src', sourceIndex src' < sourceIndex src → (pending src' r && enabled src' r) = false := by
  have hs := List.find?_some h
  rw [Bool.and_eq_true] at hs
  refine ⟨hs.1, hs.2, fun src' hlt => ?_⟩
  unfold select allSources at h
  simp only [List.find?_cons, List.find?_nil] at h
  revert h hlt
  cases ht : (pending .tick r && enabled .tick r) <;> cases hw : (pending .pwm r && enabled .pwm r) <;>
    cases hp : (pending .pulse r && enabled .pulse r) <;> cases hb : (pending .btn r && enabled .btn r) <;>
    cases src <;> cases src' <;> simp_all [sourceIndex]

/-- A dispatch step changes nothing, or clears the pending bit of the selected source and runs its handler (R345). -/
theorem dispatchStep_cases (p : Params) (r : Regs) :
    (select r = none ∧ dispatchStep p r = r) ∨
    (∃ src, select r = some src ∧ dispatchStep p r = handler p src (clearPending src r)) := by
  unfold dispatchStep
  cases h : select r with
  | none => exact .inl ⟨rfl, rfl⟩
  | some src => exact .inr ⟨src, rfl, rfl⟩

/-! ### The estimator, the controller and the PWM generator -/

/-- The pulse-edge handler (R203). -/
theorem onPulseEdge_cases (r : Regs) :
    (r.run = false ∧ onPulseEdge r = r) ∨
    (r.run = true ∧ onPulseEdge r = { r with pulseCnt := r.pulseCnt + 1, idleTicks := 0, stalled := false }) := by
  unfold onPulseEdge
  cases h : r.run
  · exact .inl ⟨rfl, rfl⟩
  · exact .inr ⟨rfl, rfl⟩

/-- The timer fraction lies in [0, 1) where PT_REMAIN is in its range (R205). -/
theorem timerFraction_mem {p : Params} {r : Regs} (h1 : 1 ≤ r.ptRemain.toNat) (h2 : r.ptRemain.toNat ≤ p.ptPeriod.toNat) :
    0 ≤ timerFraction p r ∧ timerFraction p r < 1 := by
  have hp : (0 : ℚ) < (p.ptPeriod.toNat : ℚ) := by exact_mod_cast ptPeriod_pos p
  have h1' : (1 : ℚ) ≤ (r.ptRemain.toNat : ℚ) := by exact_mod_cast h1
  have h2' : (r.ptRemain.toNat : ℚ) ≤ (p.ptPeriod.toNat : ℚ) := by exact_mod_cast h2
  unfold timerFraction
  refine ⟨div_nonneg (by linarith) hp.le, ?_⟩
  rw [div_lt_one hp]
  linarith

/-- The integrator stays within its bounds, whatever the rounding (R243). -/
theorem integrate_mem (p : Params) (err x : ℚ) : p.iMin ≤ integrate p err x ∧ integrate p err x ≤ p.iMax :=
  clamp_mem (iMin_le_iMax p)

/-- The PWM clock: nothing while stopped, one count down, or an expiry (R272). -/
theorem pwmClock_cases (r : Regs) :
    (r.pwmRunning = false ∧ pwmClock r = r) ∨
    (r.pwmRunning = true ∧ 1 < r.pwmCount.toNat ∧ pwmClock r = { r with pwmCount := r.pwmCount - 1 }) ∨
    (r.pwmRunning = true ∧ r.pwmCount.toNat ≤ 1 ∧ pwmClock r = setPending .pwm { r with pwmCount := r.pwmReload }) := by
  unfold pwmClock
  cases h : r.pwmRunning
  · exact .inl ⟨rfl, by simp⟩
  · by_cases hc : 1 < r.pwmCount.toNat
    · exact .inr (.inl ⟨rfl, hc, by simp [hc]⟩)
    · exact .inr (.inr ⟨rfl, by omega, by simp [hc]⟩)

/-- set_duty changes only the line, the phase, and on the general path the timer (R276). -/
theorem setDuty_cases (period : BitVec 16) (pct : BitVec 7) (r : Regs) :
    (pct = 0 ∧ setDuty period pct r = { r with pwmLine := false, pwmPhaseOn := !r.pwmPhaseOn }) ∨
    (pct = 100 ∧ setDuty period pct r = { r with pwmLine := true, pwmPhaseOn := !r.pwmPhaseOn }) ∨
    (pct ≠ 0 ∧ pct ≠ 100 ∧ phaseReload period pct r.pwmPhaseOn ≤ 0 ∧
      setDuty period pct r = { r with pwmLine := !r.pwmPhaseOn, pwmPhaseOn := !r.pwmPhaseOn }) ∨
    (pct ≠ 0 ∧ pct ≠ 100 ∧ 0 < phaseReload period pct r.pwmPhaseOn ∧
      setDuty period pct r = { r with
        pwmLine := !r.pwmPhaseOn, pwmPhaseOn := !r.pwmPhaseOn
        pwmReload := wrap 32 (phaseReload period pct r.pwmPhaseOn)
        pwmCount := wrap 32 (phaseReload period pct r.pwmPhaseOn), pwmRunning := true }) := by
  unfold setDuty rearm
  split_ifs with h0 h1 h2
  · exact .inl ⟨h0, rfl⟩
  · exact .inr (.inl ⟨h1, rfl⟩)
  · exact .inr (.inr (.inr ⟨h0, h1, h2, rfl⟩))
  · exact .inr (.inr (.inl ⟨h0, h1, not_lt.1 h2, rfl⟩))

/-! ### The master scheduler -/

/-- The four loop periods (R260). -/
theorem loopPeriodFor_mem (sp : BitVec 16) :
    loopPeriodFor sp = 30 ∨ loopPeriodFor sp = 40 ∨ loopPeriodFor sp = 100 ∨ loopPeriodFor sp = 200 := by
  unfold loopPeriodFor
  split_ifs <;> simp

/-- What an evaluation writes, as one update (R303). -/
theorem evaluate_eq (p : Params) (r : Regs) :
    ∃ rpm i pid : ℚ, rpm = rnd p (rpmScale p r.loopPeriod * pulseAccumulator p r) ∧
      i = integrate p (scaledError r.setpoint rpm) r.iState ∧
      pid = clamp (rnd p (p.pGain * scaledError r.setpoint rpm + p.iGain * i)) 0 100 ∧
      evaluate p r = { r with
        residue := rnd p (-timerFraction p r), pulseCnt := 0, measRpm := rpm, rpmSum := rnd p (r.rpmSum + rpm)
        rpmCnt := r.rpmCnt + 1, iState := i, pidOut := pid, duty := dutyFor r.stalled pid
        loopPeriod := loopPeriodFor r.setpoint, tickCnt := 0, state := .sampling } :=
  ⟨_, _, _, rfl, rfl, rfl, rfl⟩

/-- What a window close writes, as one update (R306, R222). -/
theorem closeWindow_eq (p : Params) (r : Regs) :
    closeWindow p r = { r with
      pubCurrRaw := rnd p ((r.curSum.toInt : ℚ) / 1000)
      pubCurr := rnd p ((r.curSum.toInt : ℚ) / 1000 * p.curScaleNum / (2 * p.curScaleDen))
      curSum := 0, curCnt := 0, pubRpm := averageRpm r, rpmSum := 0, rpmCnt := 0, pubSeq := r.pubSeq + 1
      drdy := true } := rfl

/-- The four forms of a tick while RUN = 1, and none while RUN = 0 (R300). -/
theorem onTick_cases (p : Params) (r : Regs) :
    (r.run = false ∧ onTick p r = r) ∨
    (r.run = true ∧ onTick p r = closeIfDue p (evaluateIfDue p (sampleTick p r))) := by
  unfold onTick
  cases h : r.run
  · exact .inl ⟨rfl, by simp⟩
  · exact .inr ⟨rfl, by simp⟩

/-! ### Handlers and writes -/

/-- While RUN = 0 every handler but the one of BTN does nothing (R300, R280, R203). -/
theorem handler_of_idle (p : Params) {src : Source} (hsrc : src ≠ .btn) {r : Regs} (h : r.run = false) :
    handler p src r = r := by
  cases src <;> simp_all [handler, onTick, onPeriodElapsed, onPulseEdge]

/-- No handler changes an interrupt bit (R367): only the dispatch step that runs it does. -/
theorem handler_irq (p : Params) (src : Source) (r : Regs) :
    (handler p src r).irqPend = r.irqPend ∧ (handler p src r).irqEn = r.irqEn ∧
      (handler p src r).irqOvr = r.irqOvr := by
  cases src
  · change (onTick p r).irqPend = _ ∧ (onTick p r).irqEn = _ ∧ (onTick p r).irqOvr = _
    unfold onTick closeIfDue evaluateIfDue
    split_ifs <;> exact ⟨rfl, rfl, rfl⟩
  · change (onPeriodElapsed r).irqPend = _ ∧ (onPeriodElapsed r).irqEn = _ ∧ (onPeriodElapsed r).irqOvr = _
    unfold onPeriodElapsed
    split_ifs
    · rcases setDuty_cases r.pwmPeriod r.duty r with ⟨_, e⟩ | ⟨_, e⟩ | ⟨_, _, _, e⟩ | ⟨_, _, _, e⟩ <;> rw [e] <;>
        exact ⟨rfl, rfl, rfl⟩
    · exact ⟨rfl, rfl, rfl⟩
  · change (onPulseEdge r).irqPend = _ ∧ (onPulseEdge r).irqEn = _ ∧ (onPulseEdge r).irqOvr = _
    unfold onPulseEdge
    split_ifs <;> exact ⟨rfl, rfl, rfl⟩
  · exact ⟨rfl, rfl, rfl⟩

/-- A write of CTRL changes nothing, starts an idle loop, or stops a running one (R163). -/
theorem writeCtrl_cases (d : HostWord) (r : Regs) :
    writeCtrl d r = r ∨ (r.run = false ∧ writeCtrl d r = start r) ∨ (r.run = true ∧ writeCtrl d r = stop r) := by
  unfold writeCtrl
  cases r.run <;> cases dataBit0 d <;> simp

/-! ### Steps -/

/-- One inversion for every step: the word is illegal and only the outcome changes, or it decodes and the step is the
operation's. -/
theorem step_cases {s t : State} (h : step s = .next t) :
    ∃ w rest, s.ops = w :: rest ∧
      ((∃ e, decode w = .error e ∧ t = raise (.illegalOp w) { s with ops := rest }) ∨
       (∃ i, decode w = .ok i ∧ exec i { s with ops := rest } = .next t)) := by
  unfold step fetch at h
  cases ho : s.ops with
  | nil => simp [ho] at h
  | cons w rest =>
    refine ⟨w, rest, rfl, ?_⟩
    simp only [ho] at h
    cases hd : decode w with
    | error e => exact .inl ⟨e, rfl, by simpa [hd] using h.symm⟩
    | ok i => exact .inr ⟨i, rfl, by simpa [hd] using h⟩

/-- The registers after an operation, whatever its outcome: the one place that says what each operation does to them. -/
def regsAfter (p : Params) (r : Regs) : Instr → Regs
  | .rd _ => r
  | .wr o d => if checkAccess o = none then writeWindow o d r else r
  | .wrCtrl d => writeCtrl d r
  | .wrStatus d => writeStatus d r
  | .wrSetpoint d => writeSetpoint d r
  | .wrPwmPeriod d => writePwmPeriod d r
  | .wrStallLimit d => writeStallLimit d r
  | .wrIrqEn d => writeIrqEn d r
  | .wrIrqOvr d => writeIrqOvr d r
  | .evTick a => tickEvent a r
  | .evPulse => pulseEvent p r
  | .evButton => buttonEvent r
  | .evPtClk => ptClock p r
  | .evPwmClk => pwmClock r
  | .dsp => dispatchStep p r
  | .rst => Regs.reset p

/-- An operation that answers a next state takes no further word and leaves the registers of `regsAfter`. -/
theorem exec_regs {i : Instr} {s t : State} (h : exec i s = .next t) :
    t.ops = s.ops ∧ t.regs = regsAfter Config.params s.regs i := by
  cases i with
  | rd o =>
    change execRd o s = _ at h
    unfold execRd at h
    cases hc : checkAccess o <;> rw [hc] at h <;> cases h <;> exact ⟨rfl, rfl⟩
  | wr o d =>
    change execWr o d s = _ at h
    unfold execWr at h
    unfold regsAfter
    cases hc : checkAccess o <;> rw [hc] at h <;> cases h <;> simp [hc]
  | _ => cases h; exact ⟨rfl, rfl⟩

/-- The generic write of a well-formed operation changes nothing (R172). -/
theorem writeWindow_of_not_writable {o : Offset} (h : writableOffsets.contains o = false) (d : HostWord) (r : Regs) :
    writeWindow o d r = r := by
  unfold writeWindow
  cases hr : regAt o with
  | none => rfl
  | some x =>
    have hx : regOffset x = o := by simpa using List.find?_some hr
    subst hx
    cases x <;> first | rfl | (exact absurd h (by decide))

end Sys2Proof.Laws
end

