-- ==== Sys2Proof/Laws/PerInstr.lean ====
section
/-! SUPPORT. Statements about every operation as syntax, one lemma per constructor. Family `EncodedFields`: the word of
an operation holds the KIND of its row, RSV 0, and 0 in every operand field its row does not use (R131, R133). -/

namespace Sys2Proof.Laws

/-- The KIND of the row of each operation (R133, R134). -/
def kindOfInstr : Instr → Kind
  | .rd _ => .rd
  | .wr _ _ | .wrCtrl _ | .wrStatus _ | .wrSetpoint _ | .wrPwmPeriod _ | .wrStallLimit _ | .wrIrqEn _ | .wrIrqOvr _ => .wr
  | .evTick _ => .evTick
  | .evPulse => .evPulse
  | .evButton => .evButton
  | .evPtClk => .evPtClk
  | .evPwmClk => .evPwmClk
  | .dsp => .dsp
  | .rst => .rst

/-- KIND, RSV and the unused operand fields of the word of `i`. -/
def EncodedFields.Statement (i : Instr) : Prop :=
  kindField (encode i) = (kindOfInstr i).code ∧ rsvField (encode i) = 0 ∧
  (kindOfInstr i ≠ .rd → kindOfInstr i ≠ .wr → offsetField (encode i) = 0) ∧
  (kindOfInstr i ≠ .wr → kindOfInstr i ≠ .evTick → dataField (encode i) = 0)

theorem EncodedFields.rd (offset : Offset) : EncodedFields.Statement (.rd offset) := by
  simp [EncodedFields.Statement, encode, kindOfInstr, Kind.code]

theorem EncodedFields.wr (offset : Offset) (data : HostWord) : EncodedFields.Statement (.wr offset data) := by
  simp [EncodedFields.Statement, encode, kindOfInstr, Kind.code]

theorem EncodedFields.wrCtrl (data : HostWord) : EncodedFields.Statement (.wrCtrl data) := by
  simp [EncodedFields.Statement, encode, kindOfInstr, Kind.code]

theorem EncodedFields.wrStatus (data : HostWord) : EncodedFields.Statement (.wrStatus data) := by
  simp [EncodedFields.Statement, encode, kindOfInstr, Kind.code]

theorem EncodedFields.wrSetpoint (data : HostWord) : EncodedFields.Statement (.wrSetpoint data) := by
  simp [EncodedFields.Statement, encode, kindOfInstr, Kind.code]

theorem EncodedFields.wrPwmPeriod (data : HostWord) : EncodedFields.Statement (.wrPwmPeriod data) := by
  simp [EncodedFields.Statement, encode, kindOfInstr, Kind.code]

theorem EncodedFields.wrStallLimit (data : HostWord) : EncodedFields.Statement (.wrStallLimit data) := by
  simp [EncodedFields.Statement, encode, kindOfInstr, Kind.code]

theorem EncodedFields.wrIrqEn (data : HostWord) : EncodedFields.Statement (.wrIrqEn data) := by
  simp [EncodedFields.Statement, encode, kindOfInstr, Kind.code]

theorem EncodedFields.wrIrqOvr (data : HostWord) : EncodedFields.Statement (.wrIrqOvr data) := by
  simp [EncodedFields.Statement, encode, kindOfInstr, Kind.code]

theorem EncodedFields.evTick (adc : AdcCode) : EncodedFields.Statement (.evTick adc) := by
  simp [EncodedFields.Statement, encode, kindOfInstr, Kind.code]

theorem EncodedFields.evPulse : EncodedFields.Statement .evPulse := by
  simp [EncodedFields.Statement, encode, kindOfInstr, Kind.code]

theorem EncodedFields.evButton : EncodedFields.Statement .evButton := by
  simp [EncodedFields.Statement, encode, kindOfInstr, Kind.code]

theorem EncodedFields.evPtClk : EncodedFields.Statement .evPtClk := by
  simp [EncodedFields.Statement, encode, kindOfInstr, Kind.code]

theorem EncodedFields.evPwmClk : EncodedFields.Statement .evPwmClk := by
  simp [EncodedFields.Statement, encode, kindOfInstr, Kind.code]

theorem EncodedFields.dsp : EncodedFields.Statement .dsp := by
  simp [EncodedFields.Statement, encode, kindOfInstr, Kind.code]

theorem EncodedFields.rst : EncodedFields.Statement .rst := by
  simp [EncodedFields.Statement, encode, kindOfInstr, Kind.code]

end Sys2Proof.Laws
end

