-- ==== Sys2Proof/Tests/Slice0.lean ====
section
/-! SUPPORT. Tests of one step each, with expected results from the spec's worked examples (spec/95_test_vectors.md; the
vector is named at each), and a witness for the hypotheses of every obligation that has some. -/

open Sys2Proof Sys2Proof.Machine Sys2Proof.Claims

namespace Sys2Proof.Tests

/-! ## Helpers -/

/-- The test configuration TC1 (95_test_vectors.md section 0). -/
def tc1 : Params where
  pGain := 1 / 2
  iGain := 1 / 10
  iMin := -100
  iMax := 100
  adcOffset := 2048
  curScaleNum := 5
  curScaleDen := 1
  ptPeriod := 100
  iMin_nonpos := by norm_num
  iMax_nonneg := by norm_num

/-- TC1 with the interpolating estimator. -/
def tc1Add : Params := { tc1 with rpmFractionMode := .addAndCarry }

/-- TC1 with the truncated scale. -/
def tc1Trunc : Params := { tc1 with rpmScaleMode := .trunc }

/-- The reset state at TC1. -/
def rst1 : Regs := Regs.reset tc1

/-- A running block at TC1: start from reset. -/
def run1 : Regs := { rst1 with run := true, state := .sampling, pwmReload := 100000, pwmCount := 100000, pwmRunning := true }

/-- A running block at the configuration of the machine, with a PWM period of 1 ms. -/
def running : Regs :=
  { Regs.reset Config.params with
    run := true, state := .sampling, pwmPeriod := 1, pwmReload := 100, pwmCount := 100, pwmRunning := true }

/-- A state of the machine with these registers and these words waiting. -/
def at' (r : Regs) (ops : List Word) : State := { regs := r, ops := ops, resp := .ok }

/-- The operation a word decodes to. -/
def legal (w : Word) (i : Instr) : Bool := match decode w with | .ok j => j == i | .error _ => false

/-- The word is rejected for this reason. -/
def rejected (w : Word) (e : Reject) : Bool := match decode w with | .ok _ => false | .error f => f == e

/-! ## WellFormed: an ill-formed term at each writable offset is refused (R134) -/

theorem test_wellFormed_refuses_ctrl : (Instr.wr 0x004 1).wellFormed = false := by decide
theorem test_wellFormed_refuses_status : (Instr.wr 0x008 4).wellFormed = false := by decide
theorem test_wellFormed_refuses_setpoint : (Instr.wr 0x00C 175).wellFormed = false := by decide
theorem test_wellFormed_refuses_pwmPeriod : (Instr.wr 0x010 1).wellFormed = false := by decide
theorem test_wellFormed_refuses_stallLimit : (Instr.wr 0x014 10).wellFormed = false := by decide
theorem test_wellFormed_refuses_irqEn : (Instr.wr 0x018 15).wellFormed = false := by decide
theorem test_wellFormed_refuses_irqOvr : (Instr.wr 0x020 15).wellFormed = false := by decide
theorem test_wellFormed_accepts_readonly : (Instr.wr 0x01C 15).wellFormed = true := by decide

/-! ## Decode: a word written out from R131, R133 and R134 for every constructor -/

/-- R140: `RD PUB_RPM`. -/
theorem test_decode_rd : legal 0x0100006000000000 (.rd 0x060) = true := by decide
/-- V-DEC-13: an unmapped offset is the generic WR. -/
theorem test_decode_wr : legal 0x02000800FFFFFFFF (.wr 0x800 0xFFFFFFFF) = true := by decide
/-- V-HA-14: a read-only register is the generic WR. -/
theorem test_decode_wr_readonly : legal 0x0200003C00000005 (.wr 0x03C 5) = true := by decide
/-- V-HA-21. -/
theorem test_decode_wrCtrl : legal 0x0200000400000003 (.wrCtrl 3) = true := by decide
/-- V-HA-25. -/
theorem test_decode_wrStatus : legal 0x0200000800000004 (.wrStatus 4) = true := by decide
/-- R140: `WR SETPOINT, 175`. -/
theorem test_decode_wrSetpoint : legal 0x0200000C000000AF (.wrSetpoint 175) = true := by decide
/-- V-HA-13. -/
theorem test_decode_wrPwmPeriod : legal 0x0200001000010001 (.wrPwmPeriod 0x10001) = true := by decide
/-- V-HA-29. -/
theorem test_decode_wrStallLimit : legal 0x02000014000001F4 (.wrStallLimit 500) = true := by decide
/-- V-HA-18. -/
theorem test_decode_wrIrqEn : legal 0x0200001800000035 (.wrIrqEn 0x35) = true := by decide
/-- V-HA-26. -/
theorem test_decode_wrIrqOvr : legal 0x0200002000000001 (.wrIrqOvr 1) = true := by decide
/-- V-DEC-12: the largest ADC code. -/
theorem test_decode_evTick : legal 0x1000000000000FFF (.evTick 0xFFF) = true := by decide
/-- R140. -/
theorem test_decode_evPulse : legal 0x1100000000000000 .evPulse = true := by decide
/-- R140. -/
theorem test_decode_evButton : legal 0x1200000000000000 .evButton = true := by decide
/-- R140. -/
theorem test_decode_evPtClk : legal 0x1300000000000000 .evPtClk = true := by decide
/-- R140. -/
theorem test_decode_evPwmClk : legal 0x1400000000000000 .evPwmClk = true := by decide
/-- R140. -/
theorem test_decode_dsp : legal 0x2000000000000000 .dsp = true := by decide
/-- R140. -/
theorem test_decode_rst : legal 0x3F00000000000000 .rst = true := by decide

/-- V-DEC-1, 2, 3: R136(a). -/
theorem test_reject_kind :
    (rejected 0 .unknownKind && rejected 0xFF00000000000000 .unknownKind && rejected 0x0300000000000000 .unknownKind) =
      true := by decide
/-- V-DEC-4, 5: R136(b). -/
theorem test_reject_rsv :
    (rejected 0x0101000000000000 .reservedNotZero && rejected 0x0280000400000001 .reservedNotZero) = true := by decide
/-- V-DEC-7: R136(c). -/
theorem test_reject_offset : rejected 0x1100000400000000 .offsetNotZero = true := by decide
/-- V-DEC-6, 9, 10, 11: R136(d). -/
theorem test_reject_data :
    (rejected 0x0100000400000001 .dataNotZero && rejected 0x1400000000010000 .dataNotZero &&
      rejected 0x2000000000000001 .dataNotZero && rejected 0x3F00000000000001 .dataNotZero) = true := by decide
/-- V-DEC-8: R136(e). -/
theorem test_reject_adc : rejected 0x1000000000001000 .adcReservedNotZero = true := by decide

/-- The table decoder of R135 prefers the WR_* row to the generic WR row. -/
theorem test_table_prefers_longer_mask :
    tableDecode 0x0200000400000001 = some (.wrCtrl 1) ∧ tableDecode 0x0200000000000001 = some (.wr 0 1) ∧
      tableDecode 0x0280000400000001 = none := by decide

/-- The masks of the opcode table have these many 1 bits. -/
theorem test_table_weights :
    opcodeTable.map OpRow.weight = [48, 16, 32, 32, 32, 32, 32, 32, 32, 52, 64, 64, 64, 64, 64, 64] := by decide

/-- The host's view: the word as a number, and no longer operation. -/
theorem test_decodeTableWord :
    decodeTableWord 64 0x0200000C000000AF = some (.wrSetpoint 175) ∧ decodeTableWord 64 0x1000000000001000 = none ∧
      decodeTableWord 72 0x1100000000000000 = none := by decide

/-! ## Numbers (R15, R23; section 2.10) -/

theorem test_q16_floor :
    q16 25 = 0x00190000 ∧ q16 (180 / 7) = 0x0019B6DB ∧ q16 (2 / 5) = 0x00006666 ∧ q16 (-2 / 5) = 0xFFFF9999 ∧
      q16 (-1 / 131072) = 0xFFFFFFFF := by decide +kernel
theorem test_q16_saturates : q16 40000 = 0x7FFFFFFF ∧ q16 (-40000) = 0x80000000 := by decide +kernel
theorem test_int32_truncates :
    int32 (-5 / 2) = 0xFFFFFFFE ∧ int32 (51 / 2) = 0x19 ∧ int32 (-2 / 5) = 0 ∧ int32 (-40000) = 0xFFFF63C0 := by
  decide +kernel

/-! ## Host access (section 2.2) -/

/-- V-HA-1, V-HA-2, V-HA-3. -/
theorem test_rd_values :
    readback rst1 0x010 = 0x3E8 ∧ readback rst1 0x000 = 0x50494431 ∧ readback rst1 0x078 = 0 := by decide
/-- V-HA-5, V-HA-7: RD misaligned, and the window check before the alignment check. -/
theorem test_rd_busError :
    checkAccess 0x062 = some .misaligned ∧ checkAccess 0x1002 = some .outOfWindow ∧ checkAccess 0xFFC = none := by decide
/-- V-HA-8, V-HA-9. -/
theorem test_wr_busError : checkAccess 0x011 = some .misaligned ∧ checkAccess 0x1001 = some .outOfWindow := by decide
/-- V-HA-16: a read-only register ignores the write. -/
theorem test_wr_readonly : writeWindow 0x01C 0xF rst1 = rst1 := by decide +kernel
/-- V-HA-21: start from PWM_PERIOD = 1, SETPOINT = 5. -/
theorem test_wrCtrl_start :
    let r := writeCtrl 3 { rst1 with pwmPeriod := 1, setpoint := 5 }
    readback r 0x008 = 0x41 ∧ r.pwmReload = 100 ∧ r.pwmCount = 100 ∧ r.loopPeriod = 200 := by decide
/-- V-HA-23: stop. -/
theorem test_wrCtrl_stop :
    let r := writeCtrl 0 { run1 with pwmLine := true, irqPend := 0xF, pwmReload := 100 }
    readback r 0x008 = 0 ∧ r.run = false ∧ r.pwmReload = 100 ∧ r.irqPend = 8 := by decide
/-- V-HA-17, V-HA-25. -/
theorem test_wrStatus :
    (writeStatus 0x7B { rst1 with drdy := true }).drdy = true ∧ (writeStatus 4 { rst1 with drdy := true }).drdy = false := by
  decide
/-- V-HA-10, V-HA-28. -/
theorem test_wrSetpoint :
    (writeSetpoint 0x10005 rst1).setpoint = 5 ∧
      (let r := writeSetpoint 175 { run1 with stalled := true, idleTicks := 50 }
       r.setpoint = 175 ∧ r.stalled = false ∧ r.idleTicks = 0 ∧ r.loopPeriod = 200) := by decide
/-- V-HA-12, V-HA-13. -/
theorem test_wrPwmPeriod :
    (writePwmPeriod 0x20000 rst1).pwmPeriod = 1000 ∧ (writePwmPeriod 0x10001 rst1).pwmPeriod = 1 := by decide
/-- V-HA-29. -/
theorem test_wrStallLimit : (writeStallLimit 500 { rst1 with stalled := true }).stallLimit = 500 := by decide
/-- V-HA-18. -/
theorem test_wrIrqEn : (writeIrqEn 0x35 { rst1 with irqPend := 0xF }).irqEn = 5 := by decide
/-- V-HA-26, V-HA-27. -/
theorem test_wrIrqOvr :
    (writeIrqOvr 1 { rst1 with irqOvr := 5 }).irqOvr = 4 ∧ (writeIrqOvr 0xF rst1).irqOvr = 0 := by decide

/-! ## Event inputs (section 2.3) -/

/-- V-EV-2: the second tick coalesces, the newest sample wins. -/
theorem test_evTick_coalesces :
    let r := tickEvent 2200 { run1 with irqPend := 1, adcLatch := 2100 }
    r.adcLatch = 2200 ∧ r.irqPend = 1 ∧ r.irqOvr = 1 := by decide
/-- V-EV-3. -/
theorem test_evTick_idle : (tickEvent 2148 rst1).adcLatch = 2148 ∧ (tickEvent 2148 rst1).irqPend = 0 := by decide
/-- V-EV-4, V-EV-5. -/
theorem test_evPulse :
    (pulseEvent tc1 { run1 with ptRemain := 37 }).ptRemain = 100 ∧ (pulseEvent tc1 run1).irqPend = 4 ∧
      (pulseEvent tc1 rst1).irqPend = 0 := by decide
/-- V-EV-8. -/
theorem test_evButton : (buttonEvent { rst1 with irqPend := 8 }).irqOvr = 8 := by decide
/-- V-EV-9, V-EV-10. -/
theorem test_evPtClk :
    (ptClock tc1 rst1).ptRemain = 99 ∧ (ptClock tc1 { rst1 with ptRemain := 1 }).ptRemain = 100 := by decide
/-- V-EV-12, V-EV-13. -/
theorem test_evPwmClk :
    (pwmClock { run1 with pwmCount := 2 }).pwmCount = 1 ∧
      (let r := pwmClock { run1 with pwmCount := 1, pwmReload := 25 }
       r.pwmCount = 25 ∧ r.irqPend = 2) := by decide

/-! ## Dispatch and the handlers (sections 2.4 to 2.9) -/

/-- V-DSP-3, V-DSP-4: TICK is masked. -/
theorem test_dsp_masked :
    let r := dispatchStep tc1 { run1 with irqPend := 5, irqEn := 0xE }
    r.irqPend = 1 ∧ r.pulseCnt = 1 := by decide
/-- V-DSP-6: the button works while Idle. -/
theorem test_dsp_button :
    let r := dispatchStep tc1 { rst1 with setpoint := 175, stalled := true, irqPend := 8 }
    r.setpoint = 0 ∧ r.stalled = false ∧ r.irqPend = 0 := by decide
/-- V-RPM-3, V-RPM-7, V-RPM-9, V-RPM-12. -/
theorem test_rpmFinalize :
    (rpmFinalize tc1 200 { run1 with pulseCnt := 5, ptRemain := 60 }).1 = 25 ∧
    (rpmFinalize tc1 200 { run1 with pulseCnt := 5, ptRemain := 60 }).2.residue = -2 / 5 ∧
    (rpmFinalize tc1Trunc 30 { run1 with pulseCnt := 1 }).1 = 33 ∧
    (rpmFinalize tc1 40 { run1 with pulseCnt := 3, residue := -1 / 4, ptRemain := 75 }).1 = 275 / 4 ∧
    (rpmFinalize tc1Add 40 { run1 with residue := -2 / 5, ptRemain := 75 }).1 = -15 / 4 := by decide +kernel
/-- V-PID-2, V-PID-3, V-PID-7 (the second error). -/
theorem test_pidUpdate :
    (pidUpdate tc1 10 { run1 with iState := 95 }).1 = 15 ∧
    (pidUpdate tc1 (-10) { run1 with iState := -95 }).2.iState = -100 ∧
    (pidUpdate tc1 (-50) { run1 with iState := 100 }).1 = -20 := by decide +kernel
/-- V-RATE-5, 6, 7, 10. -/
theorem test_loopPeriodFor :
    loopPeriodFor 250 = 40 ∧ loopPeriodFor 100 = 100 ∧ loopPeriodFor 251 = 30 ∧ loopPeriodFor 50 = 200 := by decide
/-- V-PWM-1, V-PWM-2. -/
theorem test_setDuty_general :
    (setDuty 1000 25 run1).pwmReload = 25000 ∧ (setDuty 1000 25 run1).pwmLine = true ∧
      (setDuty 1000 25 { run1 with pwmPhaseOn := true }).pwmCount = 75000 := by decide
/-- V-PWM-11, V-PWM-14: 0 % and 100 % keep the timer and flip the phase. -/
theorem test_setDuty_ends :
    (let r := setDuty 1000 0 { run1 with pwmPhaseOn := true, pwmLine := true, pwmReload := 25000, pwmCount := 3 }
     r.pwmLine = false ∧ r.pwmPhaseOn = false ∧ r.pwmReload = 25000 ∧ r.pwmCount = 3) ∧
    (setDuty 1000 100 { run1 with pwmPhaseOn := true }).pwmLine = true := by decide
/-- V-TK-2: a tick that evaluates. -/
theorem test_tick_evaluates :
    let r := onTick tc1 { run1 with setpoint := 175, tickCnt := 199, pulseCnt := 5, adcLatch := 2048 }
    r.measRpm = 25 ∧ r.iState = 300 / 7 ∧ r.pidOut = 180 / 7 ∧ r.duty = 25 ∧ r.loopPeriod = 40 ∧ r.tickCnt = 0 ∧
      r.rpmSum = 25 ∧ r.rpmCnt = 1 ∧ r.pulseCnt = 0 := by decide +kernel
/-- V-TK-3: the same while stalled. -/
theorem test_tick_stalled :
    let r := onTick tc1
      { run1 with setpoint := 175, tickCnt := 199, pulseCnt := 5, adcLatch := 2048, stallLimit := 10, idleTicks := 199 }
    r.duty = 0 ∧ r.stalled = true ∧ r.pidOut = 180 / 7 := by decide +kernel
/-- V-TK-4: a tick that closes the window. -/
theorem test_tick_closes :
    let r := onTick tc1 { run1 with rpmSum := -5, rpmCnt := 2, curSum := -1000, curCnt := 999, adcLatch := 2048 }
    r.pubRpm = -2 ∧ r.pubCurrRaw = -1 ∧ r.pubCurr = -5 / 2 ∧ r.drdy = true ∧ r.pubSeq = 1 ∧ r.curCnt = 0 := by
  decide +kernel
/-- V-TK-8: IDLE_TICKS saturates, and STALL_LIMIT 0 never stalls. -/
theorem test_tick_idle_saturates :
    let r := countTick { run1 with idleTicks := 0xFFFF }
    r.idleTicks = 0xFFFF ∧ r.stalled = false := by decide

/-! ## Steps -/

/-- The word that is placed is the one that the very next step runs, from reset. -/
theorem test_step_runs_the_placed_word :
    step (State.reset.withFetchWord 64 0x0200000C000000AF) = exec (.wrSetpoint 175) State.reset := rfl
/-- V-DEC-11: an illegal word resets nothing. -/
theorem test_step_illegal :
    step (State.reset.withFetchWord 64 0x3F00000000000001) =
      .next { State.reset with resp := .exc (.illegalOp 0x3F00000000000001) } := rfl
/-- From reset with nothing placed there is no step. -/
theorem test_step_without_words : step State.reset = .fault .traceEnded := rfl
/-- V-HA-6: RD outside the window. -/
theorem test_rd_outOfWindow :
    exec (.rd 0x1000) State.reset = .next { State.reset with resp := .exc (.busError 0x1000 .outOfWindow) } := rfl
/-- R400: RST. -/
theorem test_rst : exec .rst (at' { running with pubSeq := 7, setpoint := 3 } []) = .next State.reset := rfl
/-- R103: the bytes of ID, low byte first. -/
theorem test_windowByte : windowByte rst1 0 = 0x31 ∧ windowByte rst1 3 = 0x50 := by decide

/-! ## Trace text (R138, R139) -/

theorem test_parse_line :
    parseLine "wr setpoint, 175 ; half speed".toList = some [.wr 0x00C 175] ∧
      parseLine "RD 0x0_62".toList = some [.rd 0x062] ∧ parseLine "TICK 4096".toList = none := by decide +kernel
theorem test_parse_pseudo :
    parseLine "PULSES 2".toList = some [.pulse, .dsp, .pulse, .dsp] ∧ parseLine "START".toList = some [.wr 0x004 1] := by
  decide +kernel
theorem test_assemble_words :
    assembleTrace ["CLROVR".toList, "TICKD 2148".toList] =
      some [0x020000200000000F, 0x1000000000000864, 0x2000000000000000] := by decide +kernel

/-! ## Witnesses: for every obligation with hypotheses, values that meet them all together -/

theorem witness_DecodeEncodeRoundTrip : (Instr.wr 0xFFFF 0xFFFFFFFF).wellFormed = true := by decide

theorem witness_EncodeDecodeRoundTrip : decode 0x1000000000000FFF = .ok (.evTick 0xFFF) := rfl

/-- Each of the five cases of R136. -/
theorem witness_IllegalWordsAreThoseOfTheFiveCases :
    rejected 0x0300000000000000 .unknownKind && rejected 0x0101000000000000 .reservedNotZero &&
      rejected 0x2000000100000000 .offsetNotZero && rejected 0x0100000400000001 .dataNotZero &&
      rejected 0x1000000000001000 .adcReservedNotZero := by decide

theorem witness_StepRunsTheDecodedOperation :
    ∃ (s : State) (w : Word) (rest : List Word) (i : Instr), s.ops = w :: rest ∧ decode w = .ok i :=
  ⟨at' running [0x2000000000000000, 0], _, _, .dsp, rfl, rfl⟩

theorem witness_StepRaisesIllegalOp :
    ∃ (s : State) (w : Word) (rest : List Word) (e : Reject), s.ops = w :: rest ∧ decode w = .error e :=
  ⟨at' running [0], _, _, .unknownKind, rfl, rfl⟩

/-- Both ends of the range of offsets without a register. -/
theorem witness_UnmappedOffsetsReadZeroAndIgnoreWrites :
    ∀ offset ∈ [(0x078 : Offset), 0xFFC], 0x078 ≤ offset.toNat ∧ offset.toNat ≤ 0xFFC ∧ offset.toNat % 4 = 0 := by
  simp

/-- Each of the three cases at its ends: outside the window, aligned and not; misaligned inside it; and good. -/
theorem witness_AccessCheckRaisesBusError :
    (∀ offset ∈ [(0x1000 : Offset), 0x1001, 0xFFFF], 0x1000 ≤ offset.toNat) ∧
    (∀ offset ∈ [(0x001 : Offset), 0xFFF], ¬ 0x1000 ≤ offset.toNat ∧ offset.toNat % 4 ≠ 0) ∧
    (∀ offset ∈ [(0x000 : Offset), 0xFFC], ¬ 0x1000 ≤ offset.toNat ∧ offset.toNat % 4 = 0) := by
  simp

/-- A read-only register, the first and the last offset without a register, and ID. -/
theorem witness_WrToReadOnlyOrUnmappedIsIgnored :
    ∀ offset ∈ [(0x01C : Offset), 0x078, 0xFFC, 0x000], offset.toNat < 0x1000 ∧ offset.toNat % 4 = 0 ∧
      offset.toNat ∉ [0x004, 0x008, 0x00C, 0x010, 0x014, 0x018, 0x020] := by simp

/-- Nothing pending, and pending but masked. -/
theorem witness_DspWithNothingReadyIsNoop :
    ready running = 0 ∧ ready { running with irqPend := 1, irqEn := 0xE } = 0 := by decide

theorem witness_DspRunsPulseHandler :
    lowestBit (ready { running with irqPend := 0xC }) = 4 ∧ { running with irqPend := 0xC }.run = true := ⟨by decide, rfl⟩

theorem witness_DspRunsButtonHandler : lowestBit (ready { Regs.reset Config.params with irqPend := 8 }) = 8 := by decide

/-- Each of the three sources. -/
theorem witness_DspWhileIdleOnlyClearsThePendingBit :
    ∀ x ∈ [1#4, 2#4, 4#4], { Regs.reset Config.params with irqPend := x }.run = false ∧
      lowestBit (ready { Regs.reset Config.params with irqPend := x }) ∈ [1#4, 2#4, 4#4] := by
  intro x hx
  refine ⟨rfl, ?_⟩
  change lowestBit (x &&& 0xF) ∈ _
  revert x
  decide

theorem witness_FourDispatchesDrainTheReadySources :
    ∃ (s : State) (rest : List Word), s.ops = List.replicate 4 (encode .dsp) ++ rest :=
  ⟨at' { running with irqPend := 0xF } (List.replicate 4 (encode .dsp) ++ [0]), _, rfl⟩

/-- A running state at the configuration of the machine is well-formed, whatever the fields that R74 does not bind. -/
theorem running_wellFormed (pend ovr : BitVec 4) (line phase : Bool) (duty : BitVec 7) (hd : duty.toNat ≤ 100)
    (tick : BitVec 16) (ht : tick.toNat < 200) (cur : BitVec 11) (hc : cur.toNat < 1000) (rpms : BitVec 16)
    (sum count : BitVec 32) (hn : 1 ≤ count.toNat) :
    Regs.WellFormed Config.params { running with
      irqPend := pend, irqOvr := ovr, pwmLine := line, pwmPhaseOn := phase, duty := duty, tickCnt := tick, curCnt := cur
      rpmCnt := rpms, curSum := sum, pwmReload := count, pwmCount := count } := by
  have := Laws.ptPeriod_pos Config.params
  constructor <;>
    simp [running, Regs.reset, Config.params.iMin_nonpos, Config.params.iMax_nonneg, hd, hn, ht, hc]
  omega

/-- Duties at both ends and inside. -/
theorem witness_DspRunsPwmHandler :
    ∀ duty ∈ [0#7, 1#7, 99#7, 100#7], ∃ s : State, s.regs.WellFormed Config.params ∧ s.regs.duty = duty ∧
      lowestBit (ready s.regs) = 2 ∧ s.regs.run = true := by
  intro duty hd
  refine ⟨at' { running with
      irqPend := 0xE, irqOvr := 0, pwmLine := false, pwmPhaseOn := false, duty := duty, tickCnt := 0, curCnt := 0
      rpmCnt := 0, curSum := 0, pwmReload := 100, pwmCount := 100 } [],
    running_wellFormed _ _ _ _ _ ?_ _ (by decide) _ (by decide) _ _ _ (by decide), rfl, ?_, rfl⟩
  · revert duty; decide
  · change lowestBit (0xE &&& 0xF) = 2
    decide

/-- The state on the last tick of a window and of a control cycle, with four evaluations so far: it meets the premises of
every invariant, and its next dispatch closes the window. -/
def closing : State :=
  at' { running with
    irqPend := 1, irqOvr := 0, pwmLine := false, pwmPhaseOn := false, duty := 0, tickCnt := 199, curCnt := 999
    rpmCnt := 4, curSum := -4095, pwmReload := 100, pwmCount := 100 } [encode .dsp]

theorem closing_wellFormed : closing.regs.WellFormed Config.params :=
  running_wellFormed _ _ _ _ _ (by decide) _ (by decide) _ (by decide) _ _ _ (by decide)

/-- The plain form, and the form that evaluates and closes the window at once. -/
theorem witness_DspRunsTickHandler :
    (let r := { running with irqPend := 0xF }; (ready r).getLsbD 0 = true ∧ r.run = true ∧
      r.tickCnt + 1 ≠ r.loopPeriod ∧ r.curCnt + 1 ≠ 1000) ∧
    (let r := closing.regs; (ready r).getLsbD 0 = true ∧ r.run = true ∧
      r.tickCnt + 1 = r.loopPeriod ∧ r.curCnt + 1 = 1000) :=
  ⟨⟨rfl, rfl, by decide, by decide⟩, ⟨rfl, rfl, rfl, rfl⟩⟩

theorem witness_EveryStepKeepsWellFormedness :
    closing.regs.WellFormed Config.params ∧ ∃ t, step closing = .next t := ⟨closing_wellFormed, _, rfl⟩

theorem witness_EveryStepKeepsSourcesGatedByRun : closing.regs.GatedByRun ∧ ∃ t, step closing = .next t :=
  ⟨⟨nofun, nofun, nofun, rfl⟩, _, rfl⟩

theorem witness_EveryStepKeepsTheWindowCovered :
    closing.regs.WellFormed Config.params ∧ closing.regs.WindowCovered ∧ ∃ t, step closing = .next t :=
  ⟨closing_wellFormed, ⟨by decide, by decide⟩, _, rfl⟩

theorem witness_ClosingWindowHoldsFiveEvaluations :
    closing.regs.WellFormed Config.params ∧ closing.regs.WindowCovered ∧
      ∃ t, exec .dsp closing = .next t ∧ t.regs.pubSeq ≠ closing.regs.pubSeq :=
  ⟨closing_wellFormed, ⟨by decide, by decide⟩, _, rfl, by decide⟩

theorem witness_EveryStepKeepsTheCurrentSumBounded :
    closing.regs.WellFormed Config.params ∧ closing.regs.CurSumBounded ∧ ∃ t, step closing = .next t :=
  ⟨closing_wellFormed, show |(-4095#32).toInt| ≤ 4095 * ((999#11).toNat : ℤ) by decide, _, rfl⟩

theorem witness_EveryStepKeepsTheResidueAFraction :
    closing.regs.WellFormed Config.params ∧ closing.regs.ResidueCarried Config.params ∧ ∃ t, step closing = .next t :=
  ⟨closing_wellFormed, .inl rfl, _, rfl⟩

theorem witness_EveryStepKeepsDutyTheFloorOfPidOut : closing.regs.DutyFollowsPid ∧ ∃ t, step closing = .next t :=
  ⟨.inl rfl, _, rfl⟩

/-- Each of the three ways: an evaluation, a start and a reset that change LOOP_PERIOD. -/
theorem witness_LoopStateChangesOnlyByEvaluationStartOrReset :
    (∃ t, exec .dsp (at' { closing.regs with setpoint := 300 } []) = .next t ∧ t.regs.loopPeriod ≠ 200) ∧
    (∃ t, exec (.wrCtrl 1) (at' { Regs.reset Config.params with setpoint := 300 } []) = .next t ∧
      t.regs.loopPeriod ≠ 200) ∧
    (∃ t, exec .rst (at' { running with loopPeriod := 30 } []) = .next t ∧ t.regs.loopPeriod ≠ 30) :=
  ⟨⟨_, rfl, by decide⟩, ⟨_, rfl, by decide⟩, ⟨_, rfl, by decide⟩⟩

/-- Each way a pending bit and an overrun bit can fall. -/
theorem witness_PendingAndOverrunBitsAreClearedExactlyAsStated :
    (∃ t, exec .dsp (at' { running with irqPend := 0xF } []) = .next t ∧ t.regs.irqPend.getLsbD 0 = false) ∧
    (∃ t, exec (.wrCtrl 0) (at' { running with irqPend := 0xF } []) = .next t ∧ t.regs.irqPend.getLsbD 2 = false) ∧
    (∃ t, exec .rst (at' { running with irqPend := 0xF } []) = .next t ∧ t.regs.irqPend.getLsbD 3 = false) ∧
    (∃ t, exec (.wrIrqOvr 8) (at' { running with irqOvr := 0xF } []) = .next t ∧ t.regs.irqOvr.getLsbD 3 = false) :=
  ⟨⟨_, rfl, by decide⟩, ⟨_, rfl, by decide⟩, ⟨_, rfl, by decide⟩, ⟨_, rfl, by decide⟩⟩

theorem witness_PublishedValuesChangeInOneStep :
    ∃ (i : Instr) (t : State), i ≠ .rst ∧ exec i closing = .next t ∧ t.regs.pubSeq ≠ closing.regs.pubSeq :=
  ⟨.dsp, _, by decide, rfl, by decide⟩

theorem witness_HostAccessesAreIdempotent :
    isHostAccess (.wrCtrl 1) && isHostAccess (.wr 0x1001 5) && isHostAccess (.rd 0x008) := by decide

theorem witness_StatusNeverShowsEvaluating :
    State.reset.regs.WellFormed Config.params ∧ State.reset.regs.run = false ∧
      closing.regs.WellFormed Config.params ∧ closing.regs.run = true := by
  have := Laws.ptPeriod_pos Config.params
  refine ⟨?_, rfl, closing_wellFormed, rfl⟩
  constructor <;> simp [State.reset, Regs.reset, Config.params.iMin_nonpos, Config.params.iMax_nonneg]
  omega

/-- The start of an on phase with duty 25 and period 1 (program P2), at the clock where the line falls and at the end of
the cycle. -/
theorem witness_PwmWaveformHasTheDutyRatio :
    ∀ n ∈ [25, 100], ∃ s : State,
      let r := s.regs
      r.WellFormed Config.params ∧ r.run = true ∧ r.pwmRunning = true ∧ r.irqPend = 0 ∧ r.irqEn.getLsbD 1 = true ∧
      1 ≤ r.duty.toNat ∧ r.duty.toNat ≤ 99 ∧ r.pwmPhaseOn = true ∧ r.pwmLine = true ∧
      r.pwmReload.toNat = r.pwmPeriod.toNat * r.duty.toNat ∧ r.pwmCount.toNat = r.pwmPeriod.toNat * r.duty.toNat ∧
      n ≤ r.pwmPeriod.toNat * 100 ∧ s.ops = pwmClocks n ++ [] := by
  intro n hn
  refine ⟨at' { running with
      irqPend := 0, irqOvr := 0, pwmLine := true, pwmPhaseOn := true, duty := 25, tickCnt := 0, curCnt := 0
      rpmCnt := 0, curSum := 0, pwmReload := 25, pwmCount := 25 } (pwmClocks n ++ []),
    running_wellFormed _ _ _ _ _ (by decide) _ (by decide) _ (by decide) _ _ _ (by decide), rfl, rfl, rfl, ?_,
    ?_, ?_, rfl, rfl, rfl, rfl, ?_, rfl⟩
  · change (0xF#4).getLsbD 1 = true
    decide
  · change 1 ≤ (25#7).toNat
    decide
  · change (25#7).toNat ≤ 99
    decide
  change n ≤ 100
  revert n
  decide

/-- A whole window and one sample less. -/
theorem witness_ThousandSamplesPublishTheirAverage :
    ∀ n ∈ [999, 1000], ∃ (s : State) (codes : List AdcCode) (rest : List Word),
      s.regs.run = true ∧ s.regs.irqPend = 0 ∧ s.regs.irqEn.getLsbD 0 = true ∧ s.regs.curCnt = 0 ∧ s.regs.curSum = 0 ∧
      codes.length = n ∧ codes.length ≤ 1000 ∧ s.ops = ticks codes ++ rest := by
  intro n hn
  refine ⟨at' running (ticks (List.replicate n 2148) ++ []), List.replicate n 2148, [], rfl, rfl, ?_, rfl, rfl,
    ?_, ?_, rfl⟩
  · change (0xF#4).getLsbD 0 = true
    decide
  · rw [List.length_replicate]
  · rw [List.length_replicate]
    simp only [List.mem_cons, List.not_mem_nil, or_false] at hn
    omega

/-- Up to the LOOP_PERIOD-th tick, and to the one before it. -/
theorem witness_EvaluationFallsOnTheLoopPeriodTick :
    ∀ codes ∈ [[0x800#12], [0x800#12, 0xFFF#12]], ∃ s : State,
      s.regs.run = true ∧ s.regs.irqPend = 0 ∧ s.regs.irqEn.getLsbD 0 = true ∧
      s.regs.tickCnt.toNat < s.regs.loopPeriod.toNat ∧
      s.regs.tickCnt.toNat + codes.length ≤ s.regs.loopPeriod.toNat ∧ s.ops = ticks codes ++ [] := by
  intro codes hc
  refine ⟨at' { running with tickCnt := 198 } (ticks codes ++ []), rfl, rfl, ?_, ?_, ?_, rfl⟩
  · change (0xF#4).getLsbD 0 = true
    decide
  · change (198#16).toNat < (200#16).toNat
    decide
  change 198 + codes.length ≤ 200
  revert codes
  decide

/-- The bounds where the two conversions saturate, from both sides. -/
theorem witness_ReadbackConversionsSaturate :
    (q16 (-32768)).toInt = -2147483648 ∧ (q16 (-32769)).toInt = -2147483648 ∧ (q16 32768).toInt = 2147483647 ∧
      (q16 (2147483647 / 65536)).toInt = 2147483647 ∧ (int32 (-4294967297 / 2)).toInt = -2147483648 ∧
      (int32 (-4294967295 / 2)).toInt = -2147483647 ∧ (int32 2147483648).toInt = 2147483647 := by decide +kernel

/-- Two errors whose running sums reach the upper bound and do not pass it. -/
theorem witness_UnclampedIntegratorHoldsTheSumOfErrors :
    tc1.numRound = id ∧ ∀ k ≤ 2, tc1.iMin ≤ run1.iState + (([100] ++ [-30] : List ℚ).take k).sum ∧
      run1.iState + (([100] ++ [-30] : List ℚ).take k).sum ≤ tc1.iMax := ⟨rfl, by decide +kernel⟩

theorem witness_InterpolatedEstimatesTelescope :
    tc1Add.numRound = id ∧ tc1Add.rpmFractionMode = .addAndCarry ∧ tc1Add.rpmScaleMode = .exact := ⟨rfl, rfl, rfl⟩

/-- Both ends of the range of PT_REMAIN, and of the residue that can be carried (V-RPM-5, V-RPM-1). -/
theorem witness_EstimateWithoutPulsesIsNotPositive :
    ∀ r ∈ [{ run1 with residue := -99 / 100, ptRemain := 1 }, run1], tc1.numRound = id ∧
      tc1.rpmFractionMode = .carryOnly ∧ tc1.rpmScaleMode = .exact ∧ 0 < (200 : BitVec 16).toNat ∧ r.pulseCnt = 0 ∧
      -1 < r.residue ∧ r.residue ≤ 0 ∧ 1 ≤ r.ptRemain.toNat ∧ r.ptRemain.toNat ≤ tc1.ptPeriod.toNat := by
  intro r hr
  refine ⟨rfl, rfl, rfl, by decide, ?_⟩
  revert r
  decide +kernel

/-- The first and the last register offset of the window, and the last aligned offset of all. -/
theorem witness_WindowBytesAreLittleEndian : ∀ offset ∈ [(0 : Offset), 0xFFC, 0xFFFC], offset.toNat % 4 = 0 := by
  simp

end Sys2Proof.Tests
end

section
/-! PROOFS. The numbers of the spec: saturation and rounding (R14, R15), and the two readback conversions (R23). -/

namespace Sys2Proof.Proofs

open Sys2Proof.Machine Sys2Proof.Claims

/-! ### Saturation and rounding (R14, R15) -/

theorem sat_eq_max_min (n : ℕ) (v : ℤ) : sat n v = max (-2 ^ (n - 1)) (min (2 ^ (n - 1) - 1) v) := by
  have hpos : (0 : ℤ) < 2 ^ (n - 1) := by positivity
  unfold sat
  split_ifs with hlow hhigh <;> omega

/-- A saturated integer fits its word, so that narrowing loses nothing of it. -/
theorem wrap_sat_toInt (v : ℤ) : (wrap 32 (sat 32 v)).toInt = max (-2147483648) (min 2147483647 v) := by
  have hsat : sat 32 v = max (-2147483648) (min 2147483647 v) := sat_eq_max_min 32 v
  rw [hsat]
  exact Laws.wrap_toInt (by omega) (by omega)

/-- Below 0 the model negates the floor of `-x`, which is the ceiling of `x`. -/
theorem trunc_eq_towardZero (x : ℚ) : trunc x = towardZero x := by
  unfold trunc towardZero
  split_ifs with hx
  · rfl
  · change -⌊-x⌋ = ⌈x⌉
    rw [Int.floor_neg, neg_neg]

/-! ### The readback conversions (R23) -/

theorem int32_toInt (x : ℚ) : (int32 x).toInt = max (-2147483648) (min 2147483647 (towardZero x)) := by
  rw [int32, wrap_sat_toInt, trunc_eq_towardZero]

theorem q16_toInt (x : ℚ) : (q16 x).toInt = max (-2147483648) (min 2147483647 ⌊x * 65536⌋) :=
  wrap_sat_toInt _

/-- The scaled floor passes the lower bound of the word exactly below -32768. -/
theorem floor_scaled_lt_iff (x : ℚ) : ⌊x * 65536⌋ < -2147483648 ↔ x < -32768 := by
  rw [Int.floor_lt]
  push_cast
  constructor <;> intro h <;> linarith

/-- The scaled floor passes the upper bound of the word exactly from 32768 on. -/
theorem le_floor_scaled_iff (x : ℚ) : 2147483648 ≤ ⌊x * 65536⌋ ↔ 32768 ≤ x := by
  rw [Int.le_floor]
  push_cast
  constructor <;> intro h <;> linarith

/-- Settles O53: both words hold a saturated integer, and for Q16.16 the bounds on the scaled floor are bounds on `x`. -/
theorem readbackConversionsSaturate : Obligations.ReadbackConversionsSaturate := by
  intro x
  refine ⟨?_, int32_toInt x⟩
  rw [q16_toInt]
  split_ifs with hlow hhigh
  · have := (floor_scaled_lt_iff x).2 hlow
    omega
  · have := (le_floor_scaled_iff x).2 hhigh
    omega
  · have := mt (floor_scaled_lt_iff x).1 hlow
    have := mt (le_floor_scaled_iff x).1 hhigh
    omega

end Sys2Proof.Proofs
end

section
/-! PROOFS. The register map: which offsets hold a register, and what RD and WR do at the others (R33, R64, R105). -/

namespace Sys2Proof.Proofs

open Sys2Proof.Machine

/-! ### The map (R33) -/

@[simp] theorem regAt_regOffset (x : Reg) : regAt (regOffset x) = some x := by
  cases x <;> decide

theorem regOffset_le (x : Reg) : (regOffset x).toNat ≤ 0x074 := by
  cases x <;> decide

/-- ADC_LATCH is the last register of the map. -/
theorem regAt_eq_none_of_le {o : Offset} (h : 0x078 ≤ o.toNat) : regAt o = none := by
  rw [regAt, List.find?_eq_none]
  intro x _ hx
  have hoff : regOffset x = o := by simpa using hx
  have hle := regOffset_le x
  rw [hoff] at hle
  omega

/-! ### Readback and write through the map (R161, R162) -/

@[simp] theorem readback_regOffset (r : Regs) (x : Reg) : readback r (regOffset x) = readReg r x := by
  rw [readback, regAt_regOffset]

theorem readback_of_regAt_none {o : Offset} (h : regAt o = none) (r : Regs) : readback r o = 0 := by
  rw [readback, h]

theorem writeWindow_of_regAt_none {o : Offset} (h : regAt o = none) (d : HostWord) (r : Regs) :
    writeWindow o d r = r := by
  rw [writeWindow, h]

/-! ### Accesses that pass the common check (R160) -/

theorem exec_rd_of_checked {o : Offset} (h : checkAccess o = none) (s : State) :
    exec (.rd o) s = .next (completeRead s (readback s.regs o)) := by
  change execRd o s = _
  rw [execRd, h]

theorem exec_wr_of_checked {o : Offset} (h : checkAccess o = none) (d : HostWord) (s : State) :
    exec (.wr o d) s = .next (complete s (writeWindow o d s.regs)) := by
  change execWr o d s = _
  rw [execWr, h]

/-- Settles O11: such an offset passes the access check and lies above every register of the map. -/
theorem unmappedOffsetsReadZeroAndIgnoreWrites : Obligations.UnmappedOffsetsReadZeroAndIgnoreWrites := by
  intro s o d hlow hhigh halign
  have hcheck : checkAccess o = none := Laws.checkAccess_eq_none.2 ⟨by omega, halign⟩
  have hnone : regAt o = none := regAt_eq_none_of_le hlow
  constructor
  · rw [exec_rd_of_checked hcheck, readback_of_regAt_none hnone]
    rfl
  · rw [exec_wr_of_checked hcheck, writeWindow_of_regAt_none hnone]
    rfl

/-- Settles O36: the model's reset registers are written as that table, and ID is hard-wired in the read. -/
theorem resetStateHoldsTheResetValues : Obligations.ResetStateHoldsTheResetValues :=
  ⟨rfl, readback_regOffset State.reset.regs .id⟩

end Sys2Proof.Proofs
end

section
/-! PROOFS. Well-formedness (R74): the reset registers are well-formed, and every operation keeps them so. One lemma per
shared operation, then one per write, event and handler, put together by `regsAfter`. -/

namespace Sys2Proof.Proofs

open Sys2Proof.Machine

section

variable {p : Params} {r : Regs}

theorem reset_wellFormed (p : Params) : (Regs.reset p).WellFormed p where
  iState_ge := p.iMin_nonpos
  iState_le := p.iMax_nonneg
  pidOut_ge := le_rfl
  pidOut_le := show (0 : ℚ) ≤ 100 by norm_num
  duty_le := Nat.zero_le _
  loopPeriod_mem := .inr (.inr (.inr rfl))
  tickCnt_lt := show (0#16).toNat < (200#16).toNat by decide
  curCnt_lt := show (0#11).toNat < 1000 by decide
  ptRemain_ge := Laws.ptPeriod_pos p
  ptRemain_le := le_rfl
  pwmPeriod_ge := show 1 ≤ (1000#16).toNat by decide
  state_eq := rfl
  pwmCount_ge := nofun
  pwmCount_le := nofun
  idle_pwmRunning _ := rfl
  idle_pwmLine _ := rfl

/-! ### Interrupt bits and the stall state: R74 binds none of them -/

theorem clearPending_wellFormed (src : Source) (h : r.WellFormed p) : (clearPending src r).WellFormed p :=
  { h with }

theorem clearStall_wellFormed (h : r.WellFormed p) : (clearStall r).WellFormed p :=
  { h with }

theorem setPending_wellFormed (src : Source) (h : r.WellFormed p) : (setPending src r).WellFormed p := by
  rw [Laws.setPending_eq]
  exact { h with }

theorem clearLoopPending_wellFormed (h : r.WellFormed p) : (clearLoopPending r).WellFormed p := by
  rw [Laws.clearLoopPending_eq]
  exact { h with }

/-! ### Host writes (R162-R171) -/

/-- Narrowing to a register keeps the value of a natural number that fits it. -/
theorem wrap_toNat {n : ℕ} {v : ℤ} (h0 : 0 ≤ v) (h1 : v < 2 ^ n) : ((wrap n v).toNat : ℤ) = v := by
  rw [wrap, BitVec.toNat_ofInt, Int.toNat_of_nonneg (Int.emod_nonneg _ (by positivity))]
  exact Int.emod_eq_of_lt h0 (mod_cast h1)

theorem loopPeriodFor_pos (sp : BitVec 16) : 0 < (loopPeriodFor sp).toNat := by
  rcases Laws.loopPeriodFor_mem sp with e | e | e | e <;> rw [e] <;> decide

/-- A full PWM period is at least 100 counts and fits the timer. -/
theorem start_wellFormed (h : r.WellFormed p) : (start r).WellFormed p := by
  have hreload := wrap_toNat (n := 32) (v := (r.pwmPeriod.toNat : ℤ) * 100) (by positivity) (by omega)
  have hcount : 1 ≤ (wrap 32 ((r.pwmPeriod.toNat : ℤ) * 100)).toNat := by
    have := h.pwmPeriod_ge
    omega
  exact clearLoopPending_wellFormed
    { h with
      iState_ge := p.iMin_nonpos
      iState_le := p.iMax_nonneg
      pidOut_ge := le_rfl
      pidOut_le := show (0 : ℚ) ≤ 100 by norm_num
      duty_le := Nat.zero_le _
      loopPeriod_mem := Laws.loopPeriodFor_mem r.setpoint
      tickCnt_lt := loopPeriodFor_pos r.setpoint
      curCnt_lt := show (0#11).toNat < 1000 by decide
      state_eq := rfl
      pwmCount_ge := fun _ => hcount
      pwmCount_le := fun _ => le_rfl
      idle_pwmRunning := nofun
      idle_pwmLine := nofun }

theorem stop_wellFormed (h : r.WellFormed p) : (stop r).WellFormed p :=
  clearLoopPending_wellFormed
    { h with
      state_eq := rfl
      pwmCount_ge := nofun
      pwmCount_le := nofun
      idle_pwmRunning := fun _ => rfl
      idle_pwmLine := fun _ => rfl }

theorem writeCtrl_wellFormed (d : HostWord) (h : r.WellFormed p) : (writeCtrl d r).WellFormed p := by
  rcases Laws.writeCtrl_cases d r with e | ⟨-, e⟩ | ⟨-, e⟩ <;> rw [e]
  · exact h
  · exact start_wellFormed h
  · exact stop_wellFormed h

theorem writeStatus_wellFormed (d : HostWord) (h : r.WellFormed p) : (writeStatus d r).WellFormed p := by
  unfold writeStatus
  split_ifs
  · exact { h with }
  · exact h

theorem writeSetpoint_wellFormed (d : HostWord) (h : r.WellFormed p) : (writeSetpoint d r).WellFormed p :=
  clearStall_wellFormed { h with }

/-- A zero period is not written, so PWM_PERIOD stays at least 1 (R168). -/
theorem writePwmPeriod_wellFormed (d : HostWord) (h : r.WellFormed p) : (writePwmPeriod d r).WellFormed p := by
  unfold writePwmPeriod
  split_ifs with hd
  · exact { h with pwmPeriod_ge := Nat.pos_of_ne_zero fun h0 => hd (BitVec.eq_of_toNat_eq h0) }
  · exact h

theorem writeStallLimit_wellFormed (d : HostWord) (h : r.WellFormed p) : (writeStallLimit d r).WellFormed p :=
  { h with }

theorem writeIrqEn_wellFormed (d : HostWord) (h : r.WellFormed p) : (writeIrqEn d r).WellFormed p :=
  { h with }

theorem writeIrqOvr_wellFormed (d : HostWord) (h : r.WellFormed p) : (writeIrqOvr d r).WellFormed p :=
  { h with }

theorem writeWindow_wellFormed (o : Offset) (d : HostWord) (h : r.WellFormed p) :
    (writeWindow o d r).WellFormed p := by
  unfold writeWindow
  split
  · exact writeCtrl_wellFormed d h
  · exact writeStatus_wellFormed d h
  · exact writeSetpoint_wellFormed d h
  · exact writePwmPeriod_wellFormed d h
  · exact writeStallLimit_wellFormed d h
  · exact writeIrqEn_wellFormed d h
  · exact writeIrqOvr_wellFormed d h
  · exact h
  · exact h

/-! ### Event inputs (R330-R339) -/

theorem tickEvent_wellFormed (a : AdcCode) (h : r.WellFormed p) : (tickEvent a r).WellFormed p := by
  have hlatched : Regs.WellFormed p { r with adcLatch := a } := { h with }
  unfold tickEvent
  split_ifs
  · exact setPending_wellFormed .tick hlatched
  · exact hlatched

theorem ptRestart_wellFormed (h : r.WellFormed p) : (ptRestart p r).WellFormed p :=
  { h with
    ptRemain_ge := Laws.ptPeriod_pos p
    ptRemain_le := le_rfl }

theorem pulseEvent_wellFormed (h : r.WellFormed p) : (pulseEvent p r).WellFormed p := by
  unfold pulseEvent
  split_ifs
  · exact setPending_wellFormed .pulse (ptRestart_wellFormed h)
  · exact ptRestart_wellFormed h

/-- The count of a timer that has not expired goes down by one. -/
theorem toNat_sub_one {x : BitVec 32} (hx : 1 < x.toNat) : (x - 1).toNat = x.toNat - 1 := by
  bv_omega

/-- A count above 1 goes down and stays positive; at 1 the timer reloads, as a restart does (R201). -/
theorem ptClock_wellFormed (h : r.WellFormed p) : (ptClock p r).WellFormed p := by
  unfold ptClock
  split_ifs with hcount
  · have hnext := toNat_sub_one hcount
    have := h.ptRemain_le
    exact { h with
      ptRemain_ge := show 1 ≤ (r.ptRemain - 1).toNat by omega
      ptRemain_le := show (r.ptRemain - 1).toNat ≤ p.ptPeriod.toNat by omega }
  · exact ptRestart_wellFormed h

/-- While the timer runs, PWM_RELOAD is at least PWM_COUNT, hence positive: an expiry loads a positive count (R272). -/
theorem pwmClock_wellFormed (h : r.WellFormed p) : (pwmClock r).WellFormed p := by
  rcases Laws.pwmClock_cases r with ⟨-, e⟩ | ⟨hrun, hcount, e⟩ | ⟨hrun, -, e⟩ <;> rw [e]
  · exact h
  · have hnext := toNat_sub_one hcount
    have := h.pwmCount_le hrun
    exact { h with
      pwmCount_ge := fun _ => show 1 ≤ (r.pwmCount - 1).toNat by omega
      pwmCount_le := fun _ => show (r.pwmCount - 1).toNat ≤ r.pwmReload.toNat by omega }
  · exact setPending_wellFormed .pwm
      { h with
        pwmCount_ge := fun hr => (h.pwmCount_ge hr).trans (h.pwmCount_le hr)
        pwmCount_le := fun _ => le_rfl }

/-! ### The handlers of PULSE, BTN and PWM -/

theorem onPulseEdge_wellFormed (h : r.WellFormed p) : (onPulseEdge r).WellFormed p := by
  rcases Laws.onPulseEdge_cases r with ⟨-, e⟩ | ⟨-, e⟩ <;> rw [e]
  · exact h
  · exact { h with }

theorem onButton_wellFormed (h : r.WellFormed p) : (onButton r).WellFormed p :=
  clearStall_wellFormed { h with }

/-- The counts of one phase, on or off, fit the 32-bit timer (R276). -/
theorem phaseReload_lt (period : BitVec 16) {pct : BitVec 7} (hpct : pct.toNat ≤ 100) (phaseOn : Bool) :
    phaseReload period pct phaseOn < 2 ^ 32 := by
  have hperiod := period.isLt
  unfold phaseReload
  split_ifs <;> nlinarith

/-- While RUN = 1 the line is free, and a re-armed timer starts at a positive reload. -/
theorem setDuty_wellFormed (hrun : r.run = true) {period : BitVec 16} {pct : BitVec 7} (hpct : pct.toNat ≤ 100)
    (h : r.WellFormed p) : (setDuty period pct r).WellFormed p := by
  have hidle {P : Prop} : r.run = false → P := fun hstop => by simp [hrun] at hstop
  rcases Laws.setDuty_cases period pct r with ⟨-, e⟩ | ⟨-, e⟩ | ⟨-, -, -, e⟩ | ⟨-, -, hpos, e⟩ <;> rw [e]
  · exact { h with idle_pwmLine := hidle }
  · exact { h with idle_pwmLine := hidle }
  · exact { h with idle_pwmLine := hidle }
  · have hreload := wrap_toNat hpos.le (phaseReload_lt period hpct r.pwmPhaseOn)
    exact { h with
      pwmCount_ge := fun _ => show 1 ≤ (wrap 32 (phaseReload period pct r.pwmPhaseOn)).toNat by omega
      pwmCount_le := fun _ => le_rfl
      idle_pwmRunning := hidle
      idle_pwmLine := hidle }

theorem onPeriodElapsed_wellFormed (h : r.WellFormed p) : (onPeriodElapsed r).WellFormed p := by
  unfold onPeriodElapsed
  split_ifs with hrun
  · exact setDuty_wellFormed hrun h.duty_le h
  · exact h

/-! ### The tick handler (R300) -/

/-- Between the parts of a tick, TICK_CNT may have reached LOOP_PERIOD and CUR_CNT may have reached 1000; at zero counters
the registers are well-formed. -/
structure MidTick (p : Params) (r : Regs) : Prop where
  running : r.run = true
  zeroed : Regs.WellFormed p { r with tickCnt := 0, curCnt := 0 }
  tickCnt_le : r.tickCnt.toNat ≤ r.loopPeriod.toNat
  curCnt_le : r.curCnt.toNat ≤ 1000

/-- With both counters below their bounds, a state in mid-tick is well-formed. -/
theorem MidTick.wellFormed (h : MidTick p r) (htick : r.tickCnt.toNat < r.loopPeriod.toNat)
    (hcur : r.curCnt.toNat < 1000) : r.WellFormed p :=
  { h.zeroed with
    tickCnt_lt := htick
    curCnt_lt := hcur }

theorem sampleTick_midTick (hrun : r.run = true) (h : r.WellFormed p) : MidTick p (sampleTick p r) where
  running := hrun
  zeroed :=
    { h with
      tickCnt_lt := Nat.zero_lt_of_lt h.tickCnt_lt
      curCnt_lt := show (0#11).toNat < 1000 by decide }
  tickCnt_le := by
    have := h.tickCnt_lt
    change (r.tickCnt + 1).toNat ≤ r.loopPeriod.toNat
    bv_omega
  curCnt_le := by
    have := h.curCnt_lt
    change (r.curCnt + 1).toNat ≤ 1000
    bv_omega

/-- DUTY is the floor of a PID_OUT in [0, 100], which its 7 bits hold, or 0 (R309, R314). -/
theorem dutyFor_le (stalled : Bool) {x : ℚ} (h0 : 0 ≤ x) (h1 : x ≤ 100) : (dutyFor stalled x).toNat ≤ 100 := by
  have hfloor0 : 0 ≤ x.floor := Int.floor_nonneg.2 h0
  have hfloor1 : x.floor ≤ 100 := show ⌊x⌋ ≤ 100 from Int.floor_le_iff.2 (by norm_num; linarith)
  have hwrap := wrap_toNat (n := 7) hfloor0 (by omega)
  unfold dutyFor
  split_ifs
  · exact Nat.zero_le _
  · omega

/-- An evaluation restarts TICK_CNT under one of the four loop periods, and clamps what it writes (R303). -/
theorem evaluate_midTick (h : MidTick p r) :
    MidTick p (evaluate p r) ∧ (evaluate p r).tickCnt.toNat < (evaluate p r).loopPeriod.toNat := by
  obtain ⟨rpm, i, pid, -, hi, hpid, e⟩ := Laws.evaluate_eq p r
  obtain ⟨hiMin, hiMax⟩ : p.iMin ≤ i ∧ i ≤ p.iMax := hi ▸ Laws.integrate_mem p _ _
  obtain ⟨hpid0, hpid100⟩ : 0 ≤ pid ∧ pid ≤ 100 := hpid ▸ Laws.clamp_mem (by norm_num)
  have hpos := loopPeriodFor_pos r.setpoint
  have hstate : SchedState.sampling = if r.run then .sampling else .idle := by rw [h.running]; rfl
  rw [e]
  refine ⟨⟨h.running, ?_, hpos.le, h.curCnt_le⟩, hpos⟩
  exact { h.zeroed with
    iState_ge := hiMin
    iState_le := hiMax
    pidOut_ge := hpid0
    pidOut_le := hpid100
    duty_le := dutyFor_le r.stalled hpid0 hpid100
    loopPeriod_mem := Laws.loopPeriodFor_mem r.setpoint
    tickCnt_lt := hpos
    state_eq := hstate }

/-- After the evaluation, if one was due, TICK_CNT is below LOOP_PERIOD (R301). -/
theorem evaluateIfDue_midTick (h : MidTick p r) :
    MidTick p (evaluateIfDue p r) ∧ (evaluateIfDue p r).tickCnt.toNat < (evaluateIfDue p r).loopPeriod.toNat := by
  unfold evaluateIfDue
  split_ifs with hdue
  · exact evaluate_midTick h
  · exact ⟨h, lt_of_le_of_ne h.tickCnt_le fun heq => hdue (BitVec.eq_of_toNat_eq heq)⟩

/-- A close empties the window, and a window that does not close holds fewer than 1000 samples (R306). -/
theorem closeIfDue_wellFormed (h : MidTick p r) (htick : r.tickCnt.toNat < r.loopPeriod.toNat) :
    (closeIfDue p r).WellFormed p := by
  unfold closeIfDue
  split_ifs with hdue
  · exact { h.zeroed with tickCnt_lt := htick }
  · exact h.wellFormed htick (lt_of_le_of_ne h.curCnt_le fun heq => hdue (BitVec.eq_of_toNat_eq heq))

theorem onTick_wellFormed (h : r.WellFormed p) : (onTick p r).WellFormed p := by
  rcases Laws.onTick_cases p r with ⟨-, e⟩ | ⟨hrun, e⟩ <;> rw [e]
  · exact h
  · obtain ⟨hmid, htick⟩ := evaluateIfDue_midTick (sampleTick_midTick hrun h)
    exact closeIfDue_wellFormed hmid htick

/-! ### Dispatch, operations and steps -/

theorem handler_wellFormed (src : Source) (h : r.WellFormed p) : (handler p src r).WellFormed p := by
  cases src with
  | tick => exact onTick_wellFormed h
  | pwm => exact onPeriodElapsed_wellFormed h
  | pulse => exact onPulseEdge_wellFormed h
  | btn => exact onButton_wellFormed h

theorem dispatchStep_wellFormed (h : r.WellFormed p) : (dispatchStep p r).WellFormed p := by
  rcases Laws.dispatchStep_cases p r with ⟨-, e⟩ | ⟨src, -, e⟩ <;> rw [e]
  · exact h
  · exact handler_wellFormed src (clearPending_wellFormed src h)

theorem regsAfter_wellFormed (i : Instr) (h : r.WellFormed p) : (Laws.regsAfter p r i).WellFormed p := by
  cases i with
  | rd o => exact h
  | wr o d =>
    change Regs.WellFormed p (if checkAccess o = none then writeWindow o d r else r)
    split_ifs
    · exact writeWindow_wellFormed o d h
    · exact h
  | wrCtrl d => exact writeCtrl_wellFormed d h
  | wrStatus d => exact writeStatus_wellFormed d h
  | wrSetpoint d => exact writeSetpoint_wellFormed d h
  | wrPwmPeriod d => exact writePwmPeriod_wellFormed d h
  | wrStallLimit d => exact writeStallLimit_wellFormed d h
  | wrIrqEn d => exact writeIrqEn_wellFormed d h
  | wrIrqOvr d => exact writeIrqOvr_wellFormed d h
  | evTick a => exact tickEvent_wellFormed a h
  | evPulse => exact pulseEvent_wellFormed h
  | evButton => exact setPending_wellFormed .btn h
  | evPtClk => exact ptClock_wellFormed h
  | evPwmClk => exact pwmClock_wellFormed h
  | dsp => exact dispatchStep_wellFormed h
  | rst => exact reset_wellFormed p

theorem step_wellFormed {s t : State} (h : s.regs.WellFormed Config.params) (hstep : step s = .next t) :
    t.regs.WellFormed Config.params := by
  obtain ⟨w, rest, -, ⟨_, -, rfl⟩ | ⟨i, -, hexec⟩⟩ := Laws.step_cases hstep
  · exact h
  · rw [(Laws.exec_regs hexec).2]
    exact regsAfter_wellFormed i h

end

/-- Settles O38: the reset registers are well-formed, and each operation keeps R74 by the lemma of its constructor. -/
theorem everyStepKeepsWellFormedness : Obligations.EveryStepKeepsWellFormedness :=
  ⟨reset_wellFormed Config.params, fun _ _ => step_wellFormed⟩

end Sys2Proof.Proofs
end

section
/-! PROOFS. The byte view of the window (R103): a byte address splits into the aligned offset of its register and the
place of the byte in it. -/

namespace Sys2Proof.Proofs

open Sys2Proof.Machine

/-- The mask of the byte view clears the two low bits of a byte address. -/
theorem toNat_and_wordMask (addr : Offset) : (addr &&& 0xFFFC).toNat = addr.toNat / 4 * 4 := by
  have hmask : (0xFFFC : Offset) = BitVec.allOnes 16 <<< 2 := rfl
  have haddr := addr.isLt
  rw [hmask, ← BitVec.shiftLeft_ushiftRight, BitVec.toNat_shiftLeft, BitVec.toNat_ushiftRight, Nat.shiftLeft_eq,
    Nat.shiftRight_eq_div_pow]
  omega

section
variable {offset k : Offset} (halign : offset.toNat % 4 = 0) (hk : k.toNat < 4)
include halign hk

/-- The bytes of an aligned word do not wrap around the end of the address space. -/
theorem toNat_aligned_add : (offset + k).toNat = offset.toNat + k.toNat := by
  have hoffset := offset.isLt
  rw [BitVec.toNat_add]
  omega

theorem aligned_add_and_wordMask : (offset + k) &&& 0xFFFC = offset := by
  apply BitVec.eq_of_toNat_eq
  rw [toNat_and_wordMask, toNat_aligned_add halign hk]
  omega

theorem toNat_aligned_add_mod_four : (offset + k).toNat % 4 = k.toNat := by
  rw [toNat_aligned_add halign hk]
  omega

/-- R103 in its own words: byte k of the register at an aligned offset is its bits [8k+7 : 8k]. -/
theorem windowByte_aligned_add (r : Regs) :
    windowByte r (offset + k) = (readback r offset).extractLsb' (8 * k.toNat) 8 := by
  rw [windowByte, aligned_add_and_wordMask halign hk, toNat_aligned_add_mod_four halign hk]

end

/-- A word is its four bytes, the most significant first. -/
theorem append_bytes (w : HostWord) :
    w.extractLsb' 24 8 ++ w.extractLsb' 16 8 ++ w.extractLsb' 8 8 ++ w.extractLsb' 0 8 = w := by
  rw [BitVec.extractLsb'_append_extractLsb'_eq_extractLsb' (by rfl),
    BitVec.extractLsb'_append_extractLsb'_eq_extractLsb' (by rfl),
    BitVec.extractLsb'_append_extractLsb'_eq_extractLsb' (by rfl)]
  exact BitVec.extractLsb'_eq_self

/-- Settles O59: each byte is the slice of the register that R103 names, and the four slices make up the register. -/
theorem windowBytesAreLittleEndian : Obligations.WindowBytesAreLittleEndian := by
  intro r offset halign
  have hbyte (k : Offset) (hk : k.toNat < 4) := windowByte_aligned_add halign hk r
  have hbyte0 : windowByte r offset = (readback r offset).extractLsb' 0 8 := by
    simpa using hbyte 0 (by decide)
  rw [hbyte 3 (by decide), hbyte 2 (by decide), hbyte 1 (by decide), hbyte0]
  exact append_bytes (readback r offset)

end Sys2Proof.Proofs
end

section
/-! PROOFS. The illegal words (R136): which words the decoder rejects, first by their fields and then by the numbers the
spec reads from them, and the step that takes one (R360); the example words (R140). -/

namespace Sys2Proof.Proofs

open Sys2Proof.Machine

/-! ### When the decoder rejects (R133, R136) -/

theorem decodeBare_error_iff (o : Offset) (d : HostWord) (i : Instr) :
    (∃ e, decodeBare o d i = .error e) ↔ o ≠ 0 ∨ d ≠ 0 := by
  unfold decodeBare
  split_ifs with ho hd
  · exact iff_of_true ⟨_, rfl⟩ (.inl ho)
  · exact iff_of_true ⟨_, rfl⟩ (.inr hd)
  · exact iff_of_false nofun (not_or.2 ⟨ho, hd⟩)

/-- Cases (c), (d) and (e) of R136, by kind. -/
theorem decodeOperands_error_iff (o : Offset) (d : HostWord) (k : Kind) :
    (∃ e, decodeOperands o d k = .error e) ↔
      (o ≠ 0 ∧ ¬(k = .rd ∨ k = .wr)) ∨ (d ≠ 0 ∧ ¬(k = .wr ∨ k = .evTick)) ∨ (k = .evTick ∧ adcReserved d ≠ 0) := by
  cases k
  case rd =>
    unfold decodeOperands
    split_ifs with hd <;> simp_all
  case wr => simp [decodeOperands]
  case evTick =>
    unfold decodeOperands
    split_ifs with ho ha <;> simp_all
  all_goals simp [decodeOperands, decodeBare_error_iff]

theorem decode_of_kindOf_none {w : Word} (h : kindOf (kindField w) = none) : decode w = .error .unknownKind := by
  rw [decode, h]

/-- Cases (b) to (e) of R136, for a word whose KIND is one of the nine. -/
theorem decode_error_iff_of_kindOf {w : Word} {k : Kind} (h : kindOf (kindField w) = some k) :
    (∃ e, decode w = .error e) ↔
      rsvField w ≠ 0 ∨ ∃ e, decodeOperands (offsetField w) (dataField w) k = .error e := by
  rw [decode, h]
  by_cases hr : rsvField w ≠ 0
  · exact iff_of_true ⟨_, if_pos hr⟩ (.inl hr)
  · simp only [if_neg hr, or_iff_right hr]

/-! ### The KIND values as numbers (R133) -/

theorem kindOf_eq_none_iff (c : BitVec 8) :
    kindOf c = none ↔ c.toNat ∉ [0x01, 0x02, 0x10, 0x11, 0x12, 0x13, 0x14, 0x20, 0x3F] := by
  have hcodes : [0x01, 0x02, 0x10, 0x11, 0x12, 0x13, 0x14, 0x20, 0x3F] = Kind.all.map (·.code.toNat) := rfl
  rw [hcodes, kindOf, List.find?_eq_none]
  simp [BitVec.toNat_inj]

theorem code_mem_offsetKinds (k : Kind) : k.code.toNat ∈ [0x01, 0x02] ↔ k = .rd ∨ k = .wr := by
  cases k <;> decide

theorem code_mem_noDataKinds (k : Kind) :
    k.code.toNat ∈ [0x01, 0x11, 0x12, 0x13, 0x14, 0x20, 0x3F] ↔ ¬(k = .wr ∨ k = .evTick) := by
  cases k <;> decide

theorem code_eq_tick (k : Kind) : k.code.toNat = 0x10 ↔ k = .evTick := by
  cases k <;> decide

/-! ### The fields of a word, by shift and remainder (R131) -/

theorem toNat_kindField_eq_shift (w : Word) : (kindField w).toNat = (w >>> 56).toNat := by
  have hw := w.isLt
  rw [Laws.toNat_kindField, BitVec.toNat_ushiftRight, Nat.shiftRight_eq_div_pow]
  omega

theorem toNat_rsvField_eq_shift (w : Word) : (rsvField w).toNat = (w >>> 48).toNat % 256 := by
  rw [Laws.toNat_rsvField, BitVec.toNat_ushiftRight, Nat.shiftRight_eq_div_pow]
  rfl

theorem toNat_offsetField_eq_shift (w : Word) : (offsetField w).toNat = (w >>> 32).toNat % 65536 := by
  rw [Laws.toNat_offsetField, BitVec.toNat_ushiftRight, Nat.shiftRight_eq_div_pow]
  rfl

/-! ### The five cases as numbers (R136) -/

/-- R136 in its own words, about the fields of a word read as numbers. -/
def IllegalFields (kind rsv offset data : ℕ) : Prop :=
  kind ∉ [0x01, 0x02, 0x10, 0x11, 0x12, 0x13, 0x14, 0x20, 0x3F] ∨ rsv ≠ 0 ∨
    (offset ≠ 0 ∧ kind ∉ [0x01, 0x02]) ∨ (data ≠ 0 ∧ kind ∈ [0x01, 0x11, 0x12, 0x13, 0x14, 0x20, 0x3F]) ∨
    (kind = 0x10 ∧ data / 4096 ≠ 0)

theorem decode_error_iff_illegalFields (w : Word) :
    (∃ e, decode w = .error e) ↔
      IllegalFields (kindField w).toNat (rsvField w).toNat (offsetField w).toNat (dataField w).toNat := by
  unfold IllegalFields
  rw [← kindOf_eq_none_iff]
  cases hk : kindOf (kindField w) with
  | none => simp [decode_of_kindOf_none hk]
  | some k =>
    have hadc : adcReserved (dataField w) = 0 ↔ (dataField w).toNat / 4096 = 0 := by
      rw [← BitVec.toNat_inj, Laws.toNat_adcReserved]
      rfl
    rw [decode_error_iff_of_kindOf hk, decodeOperands_error_iff, ← Laws.code_of_kindOf hk, code_mem_offsetKinds,
      code_mem_noDataKinds, code_eq_tick, ne_eq (adcReserved _), hadc]
    simp [← BitVec.toNat_inj]

/-! ### The step that takes an illegal word (R360) -/

theorem step_of_decode_error {s : State} {w : Word} {rest : List Word} {e : Reject} (hops : s.ops = w :: rest)
    (h : decode w = .error e) : step s = .next (raise (.illegalOp w) { s with ops := rest }) := by
  rw [step, fetch, hops]
  simp only [h]

/-- Settles O4: the numbers of the statement are the fields of the word, and a step raises IllegalOp on any rejected
word. -/
theorem illegalWordsAreThoseOfTheFiveCases : Obligations.IllegalWordsAreThoseOfTheFiveCases := by
  intro w kind rsv offset data illegal
  have hiff : (∃ e, decode w = .error e) ↔ illegal := by
    rw [decode_error_iff_illegalFields, toNat_kindField_eq_shift, toNat_rsvField_eq_shift,
      toNat_offsetField_eq_shift, Laws.toNat_dataField]
    rfl
  refine ⟨hiff, fun hill s rest hops => ?_⟩
  obtain ⟨e, he⟩ := hiff.2 hill
  exact step_of_decode_error hops he

/-! ### The example words (R140) -/

/-- R160: an RD that fails the access check raises its BusError. -/
theorem exec_rd_of_busError {o : Offset} {reason : BusReason} (h : checkAccess o = some reason) (s : State) :
    exec (.rd o) s = .next (raise (.busError o reason) s) := by
  change execRd o s = _
  rw [execRd, h]

/-- Settles O5: the decoder computes each word, and offset 0x062 fails the access check. -/
theorem specExampleWordsDecode : Obligations.SpecExampleWordsDecode :=
  ⟨rfl, rfl, rfl, rfl, rfl, rfl, rfl, rfl, rfl, rfl, rfl, rfl, exec_rd_of_busError (by decide)⟩

end Sys2Proof.Proofs
end

section
/-! PROOFS. The host accesses (R160-R172): the words of the writes, the common check of RD and WR, and the write rules of
CTRL, STATUS and IRQ_OVR. -/

namespace Sys2Proof.Proofs

open Sys2Proof.Machine Sys2Proof.Claims

/-! ### The words of the writes (R131, R134) -/

/-- Every WR_* word is this one at the offset of its register. -/
theorem toNat_encode_wr (o : Offset) (d : HostWord) :
    (encode (.wr o d)).toNat = 0x0200000000000000 + o.toNat * 0x100000000 + d.toNat :=
  Laws.toNat_opWord 0x02 o d

/-! ### The common check as numbers (R160) -/

theorem windowBits_eq_zero_iff (o : Offset) : o.extractLsb' 12 4 = 0 ↔ o.toNat < 0x1000 := by
  have ho := o.isLt
  rw [← BitVec.toNat_inj, BitVec.extractLsb'_toNat, Nat.shiftRight_eq_div_pow]
  change o.toNat / 2 ^ 12 % 2 ^ 4 = 0 ↔ o.toNat < 0x1000
  omega

theorem alignmentBits_eq_zero_iff (o : Offset) : o.extractLsb' 0 2 = 0 ↔ o.toNat % 4 = 0 := by
  rw [← BitVec.toNat_inj, BitVec.extractLsb'_toNat]
  rfl

theorem checkAccess_of_outside {o : Offset} (h : 0x1000 ≤ o.toNat) : checkAccess o = some .outOfWindow :=
  if_pos (mt (windowBits_eq_zero_iff o).1 (not_lt.2 h))

theorem checkAccess_of_misaligned {o : Offset} (hin : o.toNat < 0x1000) (h : o.toNat % 4 ≠ 0) :
    checkAccess o = some .misaligned := by
  have hwindow : ¬ o.extractLsb' 12 4 ≠ 0 := not_not.2 ((windowBits_eq_zero_iff o).2 hin)
  have halignment : o.extractLsb' 0 2 ≠ 0 := mt (alignmentBits_eq_zero_iff o).1 h
  rw [checkAccess, if_neg hwindow, if_pos halignment]

theorem exec_wr_of_busError {o : Offset} {reason : BusReason} (h : checkAccess o = some reason) (d : HostWord)
    (s : State) : exec (.wr o d) s = .next (raise (.busError o reason) s) := by
  change execWr o d s = _
  rw [execWr, h]

/-- Settles O12: the check has one of its three answers on every offset, the window before the alignment, and RD and WR
answer as it says. -/
theorem accessCheckRaisesBusError : Obligations.AccessCheckRaisesBusError := by
  intro s o d
  split_ifs with hout hmis
  · have hcheck := checkAccess_of_outside hout
    exact ⟨exec_rd_of_busError hcheck s, exec_wr_of_busError hcheck d s⟩
  · have hcheck := checkAccess_of_misaligned (not_le.1 hout) hmis
    exact ⟨exec_rd_of_busError hcheck s, exec_wr_of_busError hcheck d s⟩
  · have hcheck := Laws.checkAccess_eq_none.2 ⟨not_le.1 hout, not_not.1 hmis⟩
    exact ⟨⟨_, exec_rd_of_checked hcheck s⟩, ⟨_, exec_wr_of_checked hcheck d s⟩⟩

/-! ### Offsets without a write rule (R134, R172) -/

theorem contains_writableOffsets_eq_false_iff (o : Offset) :
    writableOffsets.contains o = false ↔ o.toNat ∉ [0x004, 0x008, 0x00C, 0x010, 0x014, 0x018, 0x020] := by
  have hoffsets : [0x004, 0x008, 0x00C, 0x010, 0x014, 0x018, 0x020] = writableOffsets.map BitVec.toNat := rfl
  rw [hoffsets]
  simp [BitVec.toNat_inj]

/-- Settles O13: the access passes the check, and the map has no write rule at the offset. -/
theorem wrToReadOnlyOrUnmappedIsIgnored : Obligations.WrToReadOnlyOrUnmappedIsIgnored := by
  intro s o d hin halign hrule
  refine ⟨toNat_encode_wr o d, ?_⟩
  have hcheck : checkAccess o = none := Laws.checkAccess_eq_none.2 ⟨hin, halign⟩
  have hignored := Laws.writeWindow_of_not_writable ((contains_writableOffsets_eq_false_iff o).2 hrule) d s.regs
  rw [exec_wr_of_checked hcheck, hignored]
  rfl

/-! ### CTRL: start and stop (R163-R165) -/

/-- The model reads the thresholds of R260 from the top, the statements from the bottom. -/
theorem loopPeriodFor_eq_loopPeriod (sp : BitVec 16) : loopPeriodFor sp = loopPeriod sp := by
  unfold loopPeriodFor loopPeriod
  split_ifs <;> bv_omega

theorem start_eq_started (r : Regs) : start r = started r := by
  have hreload : wrap 32 ((r.pwmPeriod.toNat : ℤ) * 100) = BitVec.ofNat 32 (r.pwmPeriod.toNat * 100) := by
    rw [wrap, ← BitVec.ofInt_natCast]
    push_cast
    rfl
  unfold start
  rw [Laws.clearLoopPending_eq, hreload, loopPeriodFor_eq_loopPeriod]
  rfl

theorem stop_eq_stopped (r : Regs) : stop r = stopped r := by
  rw [stop, Laws.clearLoopPending_eq]
  rfl

theorem writeCtrl_eq (d : HostWord) (r : Regs) :
    writeCtrl d r =
      if r.run = false ∧ d.getLsbD 0 = true then started r
      else if r.run = true ∧ d.getLsbD 0 = false then stopped r else r := by
  rw [writeCtrl, start_eq_started, stop_eq_stopped]
  simp [dataBit0]

theorem exec_wrCtrl (d : HostWord) (s : State) : exec (.wrCtrl d) s = .next (complete s (writeCtrl d s.regs)) := rfl

/-- Settles O15: WR_CTRL performs the write rule of CTRL, whose start and stop are those of the statement. -/
theorem wrCtrlStartsAndStopsTheLoop : Obligations.WrCtrlStartsAndStopsTheLoop := by
  intro s d
  refine ⟨toNat_encode_wr 0x004 d, ?_⟩
  rw [exec_wrCtrl, writeCtrl_eq]
  rfl

/-! ### STATUS (R166) -/

theorem writeStatus_eq (d : HostWord) (r : Regs) :
    writeStatus d r = { r with drdy := if d.getLsbD 2 then false else r.drdy } := by
  unfold writeStatus dataBit2
  split_ifs <;> rfl

theorem exec_wrStatus (d : HostWord) (s : State) :
    exec (.wrStatus d) s = .next (complete s (writeStatus d s.regs)) := rfl

/-- Settles O16: WR_STATUS performs the write rule of STATUS, which writes DRDY alone. -/
theorem wrStatusClearsDisplayReady : Obligations.WrStatusClearsDisplayReady := by
  intro s d
  refine ⟨toNat_encode_wr 0x008 d, ?_⟩
  rw [exec_wrStatus, writeStatus_eq]
  rfl

/-! ### IRQ_OVR (R171) -/

theorem dataLow4_eq_ofNat (d : HostWord) : dataLow4 d = BitVec.ofNat 4 d.toNat := by
  rw [dataLow4, BitVec.ofNat_toNat, BitVec.setWidth_eq_extractLsb' (by decide)]

theorem exec_wrIrqOvr (d : HostWord) (s : State) :
    exec (.wrIrqOvr d) s = .next (complete s (writeIrqOvr d s.regs)) := rfl

/-- Settles O21: WR_IRQ_OVR performs the write rule of IRQ_OVR on the low four bits of DATA. -/
theorem wrIrqOvrClearsOnOne : Obligations.WrIrqOvrClearsOnOne := by
  intro s d
  refine ⟨toNat_encode_wr 0x020 d, ?_⟩
  rw [exec_wrIrqOvr, writeIrqOvr, dataLow4_eq_ofNat]
  rfl

end Sys2Proof.Proofs
end

section
/-! PROOFS. The controller (R241, R243, R245): its integrator in plain arithmetic, and its update as one record update. -/

namespace Sys2Proof.Proofs

open Sys2Proof.Machine Sys2Proof.Claims

/-- The bounds of a legal configuration are in order, so that the clamp is a `max` of a `min` (R15, R241). -/
theorem integrate_eq_max_min (p : Params) (err x : ℚ) :
    integrate p err x = max p.iMin (min p.iMax (p.numRound (x + err))) :=
  Laws.clamp_eq_max_min (Laws.iMin_le_iMax p)

/-- The output reads the integrator that the update writes, and nothing clamps it (R241, R245). -/
theorem pidUpdate_eq (p : Params) (err : ℚ) (r : Regs) :
    pidUpdate p err r =
      (p.pGain * err + p.iGain * integrate p err r.iState, { r with iState := integrate p err r.iState }) := rfl

/-- Settles O55: the statement's `i` is the integrator of the model, for which the update and its bounds are known. -/
theorem pidUpdateClampsTheIntegratorOnly : Obligations.PidUpdateClampsTheIntegratorOnly := by
  intro p err r i
  have hi : integrate p err r.iState = i := integrate_eq_max_min p err r.iState
  rw [← hi]
  exact ⟨pidUpdate_eq p err r, Laws.integrate_mem p err r.iState⟩

end Sys2Proof.Proofs
end

section
/-! PROOFS. The rate scheduler (R260): the loop period as a table of setpoint bands, read in both directions. -/

namespace Sys2Proof.Proofs

open Sys2Proof.Machine

/-- The table of R260: the setpoint lies in one of four bands, and its band fixes the period. -/
theorem loopPeriodFor_cases (sp : BitVec 16) :
    (250 < sp.toNat ∧ loopPeriodFor sp = 30) ∨
    (100 < sp.toNat ∧ sp.toNat ≤ 250 ∧ loopPeriodFor sp = 40) ∨
    (50 < sp.toNat ∧ sp.toNat ≤ 100 ∧ loopPeriodFor sp = 100) ∨
    (sp.toNat ≤ 50 ∧ loopPeriodFor sp = 200) := by
  unfold loopPeriodFor
  split_ifs with h250 h100 h50
  · exact .inl ⟨h250, rfl⟩
  · exact .inr (.inl ⟨h100, not_lt.1 h250, rfl⟩)
  · exact .inr (.inr (.inl ⟨h50, not_lt.1 h100, rfl⟩))
  · exact .inr (.inr (.inr ⟨not_lt.1 h50, rfl⟩))

/-- The bands exclude each other and so do the four periods, so that a period tells its band. -/
theorem loopPeriodFor_eq_iff (sp : BitVec 16) :
    (loopPeriodFor sp = 30 ↔ 250 < sp.toNat) ∧
    (loopPeriodFor sp = 40 ↔ 100 < sp.toNat ∧ sp.toNat ≤ 250) ∧
    (loopPeriodFor sp = 100 ↔ 50 < sp.toNat ∧ sp.toNat ≤ 100) ∧
    (loopPeriodFor sp = 200 ↔ sp.toNat ≤ 50) := by
  obtain ⟨hlo, e⟩ | ⟨hlo, hhi, e⟩ | ⟨hlo, hhi, e⟩ | ⟨hhi, e⟩ := loopPeriodFor_cases sp <;>
    bv_omega

/-- A setpoint that is no lower lies in the same band or in a higher one, whose period is shorter. -/
theorem loopPeriodFor_anti {sp sp' : BitVec 16} (h : sp.toNat ≤ sp'.toNat) :
    (loopPeriodFor sp').toNat ≤ (loopPeriodFor sp).toNat := by
  have band' := loopPeriodFor_cases sp'
  obtain ⟨hlo, e⟩ | ⟨hlo, hhi, e⟩ | ⟨hlo, hhi, e⟩ | ⟨hhi, e⟩ := loopPeriodFor_cases sp <;>
    bv_omega

/-- Settles O54: the table of R260 read from the period to the band, and along the order of setpoints. -/
theorem loopPeriodThresholdsAreStrict : Obligations.LoopPeriodThresholdsAreStrict := by
  intro sp
  obtain ⟨h30, h40, h100, h200⟩ := loopPeriodFor_eq_iff sp
  exact ⟨h30, h40, h100, h200, fun _ => loopPeriodFor_anti⟩

end Sys2Proof.Proofs
end

section
/-! PROOFS. The event inputs (R330, R338): EV_TICK and EV_PT_CLK as one record update each, and the dispatch step that
finds no source ready (R346). -/

namespace Sys2Proof.Proofs

open Sys2Proof.Machine Sys2Proof.Claims

/-! ### EV_TICK (R330, R365) -/

theorem toNat_encode_evTick (adc : AdcCode) :
    (encode (.evTick adc)).toNat = 0x1000000000000000 + adc.toNat := by
  have hdata : (adc.setWidth 32).toNat = adc.toNat := BitVec.toNat_setWidth_of_le (by decide)
  rw [← hdata]
  exact Laws.toNat_opWord 0x10 0 (adc.setWidth 32)

/-- The latch does not depend on RUN, the request does; bit 0 is the bit of TICK. -/
theorem tickEvent_eq (adc : AdcCode) (r : Regs) :
    tickEvent adc r =
      { r with
        adcLatch := adc
        irqPend := if r.run then r.irqPend ||| 1 else r.irqPend
        irqOvr := if r.run ∧ r.irqPend.getLsbD 0 then r.irqOvr ||| 1 else r.irqOvr } := by
  unfold tickEvent
  by_cases hrun : r.run = true
  · simp only [hrun, if_true, true_and]
    exact Laws.setPending_eq .tick _
  · simp only [hrun, Bool.false_eq_true, false_and, if_false]

theorem exec_evTick (adc : AdcCode) (s : State) :
    exec (.evTick adc) s = .next (complete s (tickEvent adc s.regs)) := rfl

/-- Settles O22: EV_TICK latches the sample, and requests TICK by the rule for pending and overrun bits while RUN = 1. -/
theorem evTickLatchesAndRequests : Obligations.EvTickLatchesAndRequests := by
  intro s adc
  refine ⟨toNat_encode_evTick adc, ?_⟩
  rw [exec_evTick, tickEvent_eq]
  rfl

/-! ### EV_PT_CLK (R338, R201) -/

theorem sub_one_eq_ofNat {x : BitVec 32} (hx : 1 < x.toNat) : x - 1 = BitVec.ofNat 32 (x.toNat - 1) := by
  rw [← toNat_sub_one hx, BitVec.ofNat_toNat, BitVec.setWidth_eq]

theorem ptClock_eq (p : Params) (r : Regs) :
    ptClock p r =
      { r with ptRemain := if 1 < r.ptRemain.toNat then BitVec.ofNat 32 (r.ptRemain.toNat - 1) else p.ptPeriod } := by
  unfold ptClock
  split_ifs with hcount
  · rw [sub_one_eq_ofNat hcount]
  · rfl

theorem exec_evPtClk (s : State) : exec .evPtClk s = .next (complete s (ptClock Config.params s.regs)) := rfl

/-- Settles O25: EV_PT_CLK clocks the pulse timer, which counts down above 1 and wraps otherwise. -/
theorem evPtClkCountsDownAndWraps : Obligations.EvPtClkCountsDownAndWraps := by
  intro s
  refine ⟨rfl, ?_⟩
  rw [exec_evPtClk, ptClock_eq]
  rfl

/-! ### DSP with no source ready (R346, R364) -/

/-- The bits of `ready` are the sources that are pending and enabled. -/
theorem getLsbD_ready (src : Source) (r : Regs) :
    (ready r).getLsbD (sourceIndex src) = (pending src r && enabled src r) :=
  BitVec.getLsbD_and

theorem select_eq_none_of_ready {r : Regs} (h : ready r = 0) : select r = none := by
  rw [select, List.find?_eq_none]
  intro src _
  rw [← getLsbD_ready, h]
  simp

theorem dispatchStep_of_select_none {r : Regs} (h : select r = none) (p : Params) : dispatchStep p r = r := by
  rw [dispatchStep, h]

theorem exec_dsp (s : State) : exec .dsp s = .next (complete s (dispatchStep Config.params s.regs)) := rfl

/-- Settles O27: with no source ready the dispatch step selects none, and leaves the registers as they are. -/
theorem dspWithNothingReadyIsNoop : Obligations.DspWithNothingReadyIsNoop := by
  intro s hready
  have hselect : select s.regs = none := select_eq_none_of_ready hready
  rw [exec_dsp, dispatchStep_of_select_none hselect]
  rfl

end Sys2Proof.Proofs
end

section
/-! PROOFS. The falling interrupt bits (R367): the dispatch step in terms of the lowest ready bit (R345, R366), the four
operations that clear a pending or an overrun bit, and all the others, which clear none. -/

namespace Sys2Proof.Proofs

open Sys2Proof.Machine Sys2Proof.Claims

/-! ### The selected source as the lowest ready bit (R364, R366) -/

theorem exists_sourceIndex_eq {k : ℕ} (h : k < 4) : ∃ src, sourceIndex src = k := by
  match k, h with
  | 0, _ => exact ⟨.tick, rfl⟩
  | 1, _ => exact ⟨.pwm, rfl⟩
  | 2, _ => exact ⟨.pulse, rfl⟩
  | 3, _ => exact ⟨.btn, rfl⟩

theorem sourceIndex_lt (src : Source) : sourceIndex src < 4 := by
  cases src <;> decide

theorem lowestBit_eq_shift :
    ∀ x : BitVec 4, ∀ k < 4, x.getLsbD k = true → (∀ j < k, x.getLsbD j = false) → lowestBit x = 1#4 <<< k := by
  decide

theorem lowestBit_ready_of_select_some {r : Regs} {src : Source} (h : select r = some src) :
    lowestBit (ready r) = sourceBit src := by
  obtain ⟨hpending, henabled, hlower⟩ := Laws.select_eq_some h
  have hready : (ready r).getLsbD (sourceIndex src) = true := by rw [getLsbD_ready, hpending, henabled]; rfl
  refine lowestBit_eq_shift (ready r) (sourceIndex src) (sourceIndex_lt src) hready fun j hj => ?_
  obtain ⟨src', rfl⟩ := exists_sourceIndex_eq (hj.trans (sourceIndex_lt src))
  rw [getLsbD_ready]
  exact hlower src' hj

theorem ready_eq_zero_of_select_none {r : Regs} (h : select r = none) : ready r = 0 := by
  refine BitVec.eq_of_getLsbD_eq fun k hk => ?_
  obtain ⟨src, rfl⟩ := exists_sourceIndex_eq hk
  have hidle := List.find?_eq_none.1 h src (by cases src <;> decide)
  rw [getLsbD_ready, Bool.eq_false_of_not_eq_true hidle]
  exact BitVec.getLsbD_zero.symm

/-! ### The operations that clear interrupt bits -/

/-- The handler that runs leaves the interrupt bits alone, so that only the bit of the taken source falls (R345). -/
theorem dispatchStep_irqPend (p : Params) (r : Regs) :
    (dispatchStep p r).irqPend = r.irqPend &&& ~~~ lowestBit (ready r) := by
  rcases Laws.dispatchStep_cases p r with ⟨hnone, e⟩ | ⟨src, hsome, e⟩ <;> rw [e]
  · have hlowest : ~~~ lowestBit (0 : BitVec 4) = BitVec.allOnes 4 := by decide
    rw [ready_eq_zero_of_select_none hnone, hlowest, BitVec.and_allOnes]
  · obtain ⟨hpend, -, -⟩ := Laws.handler_irq p src (clearPending src r)
    rw [hpend, lowestBit_ready_of_select_some hsome, Laws.clearPending_irqPend]

theorem dispatchStep_irqOvr (p : Params) (r : Regs) : (dispatchStep p r).irqOvr = r.irqOvr := by
  rcases Laws.dispatchStep_cases p r with ⟨-, e⟩ | ⟨src, -, e⟩ <;> rw [e]
  obtain ⟨-, -, hovr⟩ := Laws.handler_irq p src (clearPending src r)
  rw [hovr, Laws.clearPending_irqOvr]

/-- A start and a stop change RUN and keep the pending bit of BTN alone; any other write of CTRL has no effect (R163). -/
theorem writeCtrl_irq (d : HostWord) (r : Regs) :
    (writeCtrl d r).irqPend = (if r.run ≠ (writeCtrl d r).run then r.irqPend &&& 8 else r.irqPend) ∧
      (writeCtrl d r).irqOvr = r.irqOvr := by
  rcases Laws.writeCtrl_cases d r with e | ⟨hrun, e⟩ | ⟨hrun, e⟩ <;> rw [e]
  · exact ⟨(if_neg (not_not.2 rfl)).symm, rfl⟩
  · rw [start_eq_started, hrun]
    exact ⟨rfl, rfl⟩
  · rw [stop_eq_stopped, hrun]
    exact ⟨rfl, rfl⟩

/-- The bit of BTN, which start and stop keep, is bit 3 (R20). -/
theorem getLsbD_btn : ∀ k < 4, (8#4).getLsbD k = decide (k = 3) := by
  decide

theorem getLsbD_dataLow4 (d : HostWord) {k : ℕ} (hk : k < 4) : (dataLow4 d).getLsbD k = d.getLsbD k := by
  simp [dataLow4, hk]

/-! ### The operations that clear none -/

/-- No interrupt bit falls from `r` to `r'`. -/
structure KeepsIrqBits (r r' : Regs) : Prop where
  pend : ∀ {k : ℕ}, r.irqPend.getLsbD k = true → r'.irqPend.getLsbD k = true
  ovr : ∀ {k : ℕ}, r.irqOvr.getLsbD k = true → r'.irqOvr.getLsbD k = true

theorem KeepsIrqBits.of_eq {r r' : Regs} (hpend : r'.irqPend = r.irqPend) (hovr : r'.irqOvr = r.irqOvr) :
    KeepsIrqBits r r' :=
  ⟨fun h => hpend ▸ h, fun h => hovr ▸ h⟩

/-- A request only raises bits (R365). -/
theorem setPending_keepsIrqBits (src : Source) {r r' : Regs} (h : KeepsIrqBits r r') :
    KeepsIrqBits r (setPending src r') := by
  rw [Laws.setPending_eq]
  refine ⟨fun hk => ?_, fun hk => ?_⟩
  · simp [h.pend hk]
  · split_ifs <;> simp [h.ovr hk]

theorem tickEvent_keepsIrqBits (adc : AdcCode) (r : Regs) : KeepsIrqBits r (tickEvent adc r) := by
  unfold tickEvent
  split_ifs
  · exact setPending_keepsIrqBits .tick (.of_eq rfl rfl)
  · exact .of_eq rfl rfl

theorem pulseEvent_keepsIrqBits (p : Params) (r : Regs) : KeepsIrqBits r (pulseEvent p r) := by
  unfold pulseEvent
  split_ifs
  · exact setPending_keepsIrqBits .pulse (.of_eq rfl rfl)
  · exact .of_eq rfl rfl

theorem pwmClock_keepsIrqBits (r : Regs) : KeepsIrqBits r (pwmClock r) := by
  rcases Laws.pwmClock_cases r with ⟨-, e⟩ | ⟨-, -, e⟩ | ⟨-, -, e⟩ <;> rw [e]
  · exact .of_eq rfl rfl
  · exact .of_eq rfl rfl
  · exact setPending_keepsIrqBits .pwm (.of_eq rfl rfl)

theorem writePwmPeriod_keepsIrqBits (d : HostWord) (r : Regs) : KeepsIrqBits r (writePwmPeriod d r) := by
  unfold writePwmPeriod
  split_ifs <;> exact .of_eq rfl rfl

/-- The operations that can clear a pending or an overrun bit (R367). -/
def clearsIrqBits : Instr → Bool
  | .wrCtrl _ | .wrIrqOvr _ | .dsp | .rst => true
  | _ => false

theorem regsAfter_keepsIrqBits (p : Params) (r : Regs) {i : Instr} (hwf : i.wellFormed = true)
    (hi : clearsIrqBits i = false) : KeepsIrqBits r (Laws.regsAfter p r i) := by
  cases i with
  | wrCtrl | wrIrqOvr | dsp | rst => cases hi
  | wr o d =>
    have hignored := Laws.writeWindow_of_not_writable (by simpa [Instr.wellFormed] using hwf) d r
    rw [Laws.regsAfter, hignored, ite_self]
    exact .of_eq rfl rfl
  | wrStatus d =>
    rw [Laws.regsAfter, writeStatus_eq]
    exact .of_eq rfl rfl
  | wrPwmPeriod d => exact writePwmPeriod_keepsIrqBits d r
  | evTick adc => exact tickEvent_keepsIrqBits adc r
  | evPulse => exact pulseEvent_keepsIrqBits p r
  | evButton => exact setPending_keepsIrqBits .btn (.of_eq rfl rfl)
  | evPwmClk => exact pwmClock_keepsIrqBits r
  | rd | wrSetpoint | wrStallLimit | wrIrqEn | evPtClk => exact .of_eq rfl rfl

/-! ### When a bit falls (R367) -/

theorem regsAfter_pendingBit_falls_iff (p : Params) (r : Regs) {i : Instr} {k : ℕ} (hwf : i.wellFormed = true)
    (hk : r.irqPend.getLsbD k = true) :
    (Laws.regsAfter p r i).irqPend.getLsbD k = false ↔
      (i = .dsp ∧ (lowestBit (ready r)).getLsbD k = true) ∨
      ((∃ data, i = .wrCtrl data) ∧ r.run ≠ (Laws.regsAfter p r i).run ∧ k ≠ 3) ∨ i = .rst := by
  have hlt : k < 4 := BitVec.lt_of_getLsbD hk
  cases i with
  | dsp =>
    change (dispatchStep p r).irqPend.getLsbD k = false ↔ _
    rw [dispatchStep_irqPend]
    simp [hk, hlt]
  | wrCtrl d =>
    change (writeCtrl d r).irqPend.getLsbD k = false ↔ _ ∨ (_ ∧ r.run ≠ (writeCtrl d r).run ∧ _) ∨ _
    rw [(writeCtrl_irq d r).1]
    split_ifs with hchanged
    · simp [hk, hchanged, getLsbD_btn k hlt]
    · simp [hk, not_not.1 hchanged]
  | rst => exact iff_of_true BitVec.getLsbD_zero (.inr (.inr rfl))
  | wrIrqOvr d => exact iff_of_false (ne_of_eq_of_ne hk nofun) (by simp)
  | _ =>
    have hkept := (regsAfter_keepsIrqBits p r hwf rfl).pend hk
    exact iff_of_false (ne_of_eq_of_ne hkept nofun) (by simp)

theorem regsAfter_overrunBit_falls_iff (p : Params) (r : Regs) {i : Instr} {k : ℕ} (hwf : i.wellFormed = true)
    (hk : r.irqOvr.getLsbD k = true) :
    (Laws.regsAfter p r i).irqOvr.getLsbD k = false ↔
      (∃ data : HostWord, i = .wrIrqOvr data ∧ data.getLsbD k = true) ∨ i = .rst := by
  have hlt : k < 4 := BitVec.lt_of_getLsbD hk
  cases i with
  | wrIrqOvr d =>
    change (r.irqOvr &&& ~~~ dataLow4 d).getLsbD k = false ↔ _
    rw [BitVec.getLsbD_and, BitVec.getLsbD_not, getLsbD_dataLow4 d hlt, hk]
    simp [hlt]
  | rst => exact iff_of_true BitVec.getLsbD_zero (.inr rfl)
  | dsp =>
    have hkept := (congrArg (·.getLsbD k) (dispatchStep_irqOvr p r)).trans hk
    exact iff_of_false (ne_of_eq_of_ne hkept nofun) (by simp)
  | wrCtrl d =>
    have hkept := (congrArg (·.getLsbD k) (writeCtrl_irq d r).2).trans hk
    exact iff_of_false (ne_of_eq_of_ne hkept nofun) (by simp)
  | _ =>
    have hkept := (regsAfter_keepsIrqBits p r hwf rfl).ovr hk
    exact iff_of_false (ne_of_eq_of_ne hkept nofun) (by simp)

/-- Settles O46: an operation leaves the registers of `regsAfter`, where a set bit falls exactly in the ways of R367. -/
theorem pendingAndOverrunBitsAreClearedExactlyAsStated :
    Obligations.PendingAndOverrunBitsAreClearedExactlyAsStated := by
  intro i s t k hwf hexec
  obtain ⟨-, hregs⟩ := Laws.exec_regs hexec
  rw [hregs]
  exact ⟨regsAfter_pendingBit_falls_iff Config.params s.regs hwf,
    regsAfter_overrunBit_falls_iff Config.params s.regs hwf⟩

end Sys2Proof.Proofs
end

section
/-! PROOFS. The reset operation (R400): the word of RST, and RST as the completion of a step with the reset registers. -/

namespace Sys2Proof.Proofs

open Sys2Proof.Machine

theorem encode_rst : encode .rst = 0x3F00000000000000 := rfl

theorem exec_rst (s : State) : exec .rst s = .next (complete s (Regs.reset Config.params)) := rfl

/-- The reset state takes its registers from the reset values under the parameters of the configuration (R75). -/
theorem reset_regs : State.reset.regs = Regs.reset Config.params := rfl

/-- Settles O35: RST completes with the registers of the reset state, and a completed step keeps the waiting words. -/
theorem rstResetsEveryRegister : Obligations.RstResetsEveryRegister := by
  intro s
  refine ⟨encode_rst, ?_⟩
  rw [exec_rst, reset_regs, complete]

end Sys2Proof.Proofs
end

section
/-! PROOFS. The round trips of the encoding (R131-R134): what a packed word decodes to, what a word that decodes is
packed from, and the opcode table read by mask and match (R135). -/

namespace Sys2Proof.Proofs

open Sys2Proof.Machine Sys2Proof.Claims Sys2Proof.Laws

/-! ### From operations to words and back (R131, R133, R134) -/

/-- Packing hides nothing from the decoder: it reads the KIND and the operands that were packed. -/
theorem decode_opWord (k : Kind) (o : Offset) (d : HostWord) : decode (opWord k.code o d) = decodeOperands o d k := by
  rw [decode, kindField_opWord, kindOf_code, rsvField_opWord, offsetField_opWord, dataField_opWord]
  exact if_neg (not_not.2 rfl)

theorem decodeWr_of_not_writable {o : Offset} (h : writableOffsets.contains o = false) (d : HostWord) :
    decodeWr o d = .wr o d := by
  simp [writableOffsets] at h
  simp [decodeWr, h]

theorem decode_encode {i : Instr} (h : i.wellFormed = true) : decode (encode i) = .ok i := by
  cases i with
  | rd o => exact decode_opWord .rd o 0
  | wr o d =>
    have hgeneric : writableOffsets.contains o = false := by simpa [Instr.wellFormed] using h
    refine (decode_opWord .wr o d).trans ?_
    rw [decodeOperands, decodeWr_of_not_writable hgeneric]
  | evTick a =>
    refine (decode_opWord .evTick 0 (a.setWidth 32)).trans ?_
    simp [decodeOperands]
  | wrCtrl d | wrStatus d | wrSetpoint d | wrPwmPeriod d | wrStallLimit d | wrIrqEn d | wrIrqOvr d =>
    exact decode_opWord .wr _ d
  | evPulse => exact decode_opWord .evPulse 0 0
  | evButton => exact decode_opWord .evButton 0 0
  | evPtClk => exact decode_opWord .evPtClk 0 0
  | evPwmClk => exact decode_opWord .evPwmClk 0 0
  | dsp => exact decode_opWord .dsp 0 0
  | rst => exact decode_opWord .rst 0 0

/-- Settles O1: the decoder reads back the packed fields, and a generic WR at none of the seven offsets stays one. -/
theorem decodeEncodeRoundTrip : Obligations.DecodeEncodeRoundTrip := fun _ => decode_encode

/-! ### From words to operations and back -/

/-- WR is split by its offset, and the offset of the part is the one it was split by (R134). -/
theorem decodeWr_encodes (o : Offset) (d : HostWord) :
    (decodeWr o d).wellFormed = true ∧ encode (decodeWr o d) = opWord 0x02 o d := by
  unfold decodeWr
  split_ifs with h1 h2 h3 h4 h5 h6 h7
  case neg =>
    have hgeneric : o ∉ writableOffsets := by simp [writableOffsets]; tauto
    exact ⟨by simpa [Instr.wellFormed] using hgeneric, rfl⟩
  all_goals exact ⟨rfl, by subst o; rfl⟩

theorem decodeBare_eq_ok {o : Offset} {d : HostWord} {i j : Instr} (h : decodeBare o d i = .ok j) :
    o = 0 ∧ d = 0 ∧ j = i := by
  unfold decodeBare at h
  split_ifs at h with ho hd
  cases h
  exact ⟨not_not.1 ho, not_not.1 hd, rfl⟩

theorem decodeOperands_encodes {o : Offset} {d : HostWord} {k : Kind} {i : Instr}
    (h : decodeOperands o d k = .ok i) : i.wellFormed = true ∧ encode i = opWord k.code o d := by
  cases k with
  | rd =>
    simp only [decodeOperands] at h
    split_ifs at h with hd
    cases h
    rw [not_not.1 hd]
    exact ⟨rfl, rfl⟩
  | wr =>
    cases h
    exact decodeWr_encodes o d
  | evTick =>
    simp only [decodeOperands] at h
    split_ifs at h with ho hadc
    cases h
    rw [encode, adcField_setWidth_of_reserved d (not_not.1 hadc), not_not.1 ho]
    exact ⟨rfl, rfl⟩
  | evPulse | evButton | evPtClk | evPwmClk | dsp | rst =>
    obtain ⟨rfl, rfl, rfl⟩ := decodeBare_eq_ok h
    exact ⟨rfl, rfl⟩

theorem encode_of_decode {w : Word} {i : Instr} (h : decode w = .ok i) : i.wellFormed = true ∧ encode i = w := by
  unfold decode at h
  cases hk : kindOf (kindField w) with
  | none => simp [hk] at h
  | some k =>
    simp only [hk] at h
    split_ifs at h with hrsv
    obtain ⟨hwf, henc⟩ := decodeOperands_encodes h
    rw [code_of_kindOf hk, opWord_fields w (not_not.1 hrsv)] at henc
    exact ⟨hwf, henc⟩

/-- Settles O2: a word that decodes has RSV 0, so that it is packed from the fields which the decoder has read. -/
theorem encodeDecodeRoundTrip : Obligations.EncodeDecodeRoundTrip := fun _ _ => encode_of_decode

/-! ### The opcode table (R135) -/

theorem word_eq_iff (v w : Word) :
    v = w ↔ kindField v = kindField w ∧ rsvField v = rsvField w ∧ offsetField v = offsetField w ∧
      dataField v = dataField w := by
  refine ⟨fun h => by simp [h], fun ⟨hk, hr, ho, hd⟩ => BitVec.eq_of_toNat_eq ?_⟩
  rw [← BitVec.toNat_inj] at hk hr ho hd
  rw [toNat_kindField, toNat_kindField] at hk
  rw [toNat_rsvField, toNat_rsvField] at hr
  rw [toNat_offsetField, toNat_offsetField] at ho
  rw [toNat_dataField, toNat_dataField] at hd
  have := v.isLt
  have := w.isLt
  omega

/-- A row is matched field by field. -/
theorem accepts_iff (row : OpRow) (w : Word) :
    row.accepts w = true ↔
      kindField w &&& kindField row.mask = kindField row.pattern ∧
      rsvField w &&& rsvField row.mask = rsvField row.pattern ∧
      offsetField w &&& offsetField row.mask = offsetField row.pattern ∧
      dataField w &&& dataField row.mask = dataField row.pattern := by
  rw [OpRow.accepts, beq_iff_eq, word_eq_iff]
  simp only [kindField, rsvField, offsetField, dataField, BitVec.extractLsb'_and]

/-- The operand fields of a word are those that a row asks for. -/
def operandsMatch (o : Offset) (d : HostWord) (row : OpRow) : Bool :=
  (o &&& offsetField row.mask == offsetField row.pattern) && (d &&& dataField row.mask == dataField row.pattern)

/-- The rows of one KIND. -/
def rowsOfKind (k : Kind) : List OpRow := opcodeTable.filter (fun row => kindField row.pattern == k.code)

/-- Every row fixes the whole of KIND and RSV. -/
theorem opcodeTable_fixes_kind_rsv : ∀ row ∈ opcodeTable, kindField row.mask = BitVec.allOnes 8 ∧
    rsvField row.mask = BitVec.allOnes 8 ∧ rsvField row.pattern = 0 ∧ kindOf (kindField row.pattern) ≠ none := by
  decide

theorem accepts_iff_of_mem {row : OpRow} (hrow : row ∈ opcodeTable) (w : Word) :
    row.accepts w = true ↔ kindField row.pattern = kindField w ∧ rsvField w = 0 ∧
      operandsMatch (offsetField w) (dataField w) row = true := by
  obtain ⟨hkind, hrsv, hzero, -⟩ := opcodeTable_fixes_kind_rsv row hrow
  rw [accepts_iff, hkind, hrsv, hzero, BitVec.and_allOnes, BitVec.and_allOnes, operandsMatch, Bool.and_eq_true,
    beq_iff_eq, beq_iff_eq, eq_comm (a := kindField w)]

theorem tableDecode_of_unknownKind {w : Word} (h : kindOf (kindField w) = none) : tableDecode w = none := by
  have hnone : opcodeTable.filter (fun row => row.accepts w) = [] := by
    refine List.filter_eq_nil_iff.2 fun row hrow hacc => ?_
    obtain ⟨hkind, -⟩ := (accepts_iff_of_mem hrow w).1 hacc
    exact (opcodeTable_fixes_kind_rsv row hrow).2.2.2 (hkind ▸ h)
  rw [tableDecode, hnone]
  rfl

theorem tableDecode_of_rsv {w : Word} (h : rsvField w ≠ 0) : tableDecode w = none := by
  have hnone : opcodeTable.filter (fun row => row.accepts w) = [] :=
    List.filter_eq_nil_iff.2 fun row hrow hacc => h ((accepts_iff_of_mem hrow w).1 hacc).2.1
  rw [tableDecode, hnone]
  rfl

/-- What the table gives for operands of a known KIND. -/
def rowDecode (o : Offset) (d : HostWord) (k : Kind) : Option Instr :=
  (heaviest ((rowsOfKind k).filter (operandsMatch o d))).map (fun row => row.build o d)

theorem tableDecode_of_kind {w : Word} {k : Kind} (hkind : kindOf (kindField w) = some k) (hrsv : rsvField w = 0) :
    tableDecode w = rowDecode (offsetField w) (dataField w) k := by
  have hfilter : opcodeTable.filter (fun row => row.accepts w) =
      (rowsOfKind k).filter (operandsMatch (offsetField w) (dataField w)) := by
    rw [rowsOfKind, List.filter_filter]
    refine List.filter_congr fun row hrow => ?_
    rw [Bool.eq_iff_iff, accepts_iff_of_mem hrow, code_of_kindOf hkind]
    simp [hrsv, and_comm]
  rw [tableDecode, hfilter, rowDecode]

/-! ### The rows of each KIND (R133, R134) -/

theorem operandsMatch_iff (o : Offset) (d : HostWord) (row : OpRow) :
    operandsMatch o d row = true ↔
      o &&& offsetField row.mask = offsetField row.pattern ∧ d &&& dataField row.mask = dataField row.pattern := by
  rw [operandsMatch, Bool.and_eq_true, beq_iff_eq, beq_iff_eq]

theorem rowDecode_of_singleton {k : Kind} {row : OpRow} {o : Offset} {d : HostWord} {P : Prop} [Decidable P]
    (hrows : rowsOfKind k = [row]) (hmatch : operandsMatch o d row = true ↔ P) :
    rowDecode o d k = if P then some (row.build o d) else none := by
  rw [rowDecode, hrows, List.filter_cons, List.filter_nil, ← if_congr hmatch rfl rfl]
  split_ifs <;> rfl

/-- A row that fixes every operand bit at 0 reads as the decoder of the operations without operands. -/
theorem rowDecode_bare {k : Kind} {row : OpRow} {i : Instr} (hrows : rowsOfKind k = [row])
    (homask : offsetField row.mask = BitVec.allOnes 16) (hdmask : dataField row.mask = BitVec.allOnes 32)
    (ho : offsetField row.pattern = 0) (hd : dataField row.pattern = 0) (hbuild : ∀ o d, row.build o d = i)
    (o : Offset) (d : HostWord) : rowDecode o d k = (decodeBare o d i).toOption := by
  have hmatch : operandsMatch o d row = true ↔ o = 0 ∧ d = 0 := by
    rw [operandsMatch_iff, homask, hdmask, ho, hd, BitVec.and_allOnes, BitVec.and_allOnes]
  rw [rowDecode_of_singleton hrows hmatch, hbuild]
  unfold decodeBare
  split_ifs <;> simp_all [Except.toOption]

theorem rowDecode_rd (o : Offset) (d : HostWord) : rowDecode o d .rd = (decodeOperands o d .rd).toOption := by
  have hmatch (row : OpRow) (homask : offsetField row.mask = 0#16) (hdmask : dataField row.mask = BitVec.allOnes 32)
      (ho : offsetField row.pattern = 0#16) (hd : dataField row.pattern = 0) :
      operandsMatch o d row = true ↔ d = 0 := by
    rw [operandsMatch_iff, homask, hdmask, ho, hd, BitVec.and_zero, BitVec.and_allOnes]
    exact and_iff_right rfl
  rw [rowDecode_of_singleton (k := .rd) rfl (hmatch _ rfl rfl rfl rfl)]
  simp only [decodeOperands]
  split_ifs <;> simp_all [Except.toOption]

/-- The mask of EV_TICK covers the 20 bits above the ADC code. -/
theorem and_adcMask_eq_zero_iff (d : HostWord) : d &&& 0xFFFFF000 = 0 ↔ adcReserved d = 0 := by
  have hmask : (0xFFFFF000 : HostWord) = BitVec.allOnes 32 <<< 12 := rfl
  have hd := d.isLt
  rw [hmask, ← BitVec.shiftLeft_ushiftRight, ← BitVec.toNat_inj, ← BitVec.toNat_inj, toNat_adcReserved,
    BitVec.toNat_shiftLeft, BitVec.toNat_ushiftRight, Nat.shiftLeft_eq, Nat.shiftRight_eq_div_pow]
  change d.toNat / 2 ^ 12 * 2 ^ 12 % 2 ^ 32 = 0 ↔ d.toNat / 2 ^ 12 = 0
  omega

theorem rowDecode_evTick (o : Offset) (d : HostWord) :
    rowDecode o d .evTick = (decodeOperands o d .evTick).toOption := by
  have hmatch (row : OpRow) (homask : offsetField row.mask = BitVec.allOnes 16)
      (hdmask : dataField row.mask = 0xFFFFF000) (ho : offsetField row.pattern = 0)
      (hd : dataField row.pattern = 0) : operandsMatch o d row = true ↔ o = 0 ∧ adcReserved d = 0 := by
    rw [operandsMatch_iff, homask, hdmask, ho, hd, BitVec.and_allOnes, and_adcMask_eq_zero_iff]
  rw [rowDecode_of_singleton (k := .evTick) rfl (hmatch _ rfl rfl rfl rfl)]
  simp only [decodeOperands]
  split_ifs <;> simp_all [Except.toOption]

/-! ### The rows of WR (R134) -/

/-- The generic row of WR. -/
def genericWrRow : OpRow := ⟨"WR", 0x0200000000000000, 0xFFFF000000000000, fun o d => .wr o d⟩

theorem rowsOfKind_wr : rowsOfKind .wr = genericWrRow :: (rowsOfKind .wr).tail := rfl

/-- No WR row looks at DATA. -/
theorem wrRows_ignore_data : ∀ row ∈ rowsOfKind .wr, dataField row.mask = 0#32 ∧ dataField row.pattern = 0#32 := by
  decide

/-- A WR_* row asks for its own offset. -/
theorem wrRows_fix_offset : ∀ row ∈ (rowsOfKind .wr).tail, offsetField row.mask = BitVec.allOnes 16 ∧
    writableOffsets.contains (offsetField row.pattern) = true := by
  decide

/-- The choice among the WR rows depends on the offset alone. -/
theorem rowDecode_wr_eq (o : Offset) (d : HostWord) :
    rowDecode o d .wr = (heaviest ((rowsOfKind .wr).filter (operandsMatch o 0))).map (fun row => row.build o d) := by
  have hfilter : (rowsOfKind .wr).filter (operandsMatch o d) = (rowsOfKind .wr).filter (operandsMatch o 0) := by
    refine List.filter_congr fun row hrow => ?_
    obtain ⟨hmask, hpattern⟩ := wrRows_ignore_data row hrow
    rw [Bool.eq_iff_iff, operandsMatch_iff, operandsMatch_iff, hmask, hpattern, BitVec.and_zero, BitVec.and_zero]
  rw [rowDecode, hfilter]

theorem rowDecode_wr_generic {o : Offset} (h : writableOffsets.contains o = false) (d : HostWord) :
    rowDecode o d .wr = some (.wr o d) := by
  have hgeneric : operandsMatch o 0 genericWrRow = true :=
    (operandsMatch_iff o 0 genericWrRow).2 ⟨BitVec.and_zero, rfl⟩
  have hspecial : (rowsOfKind .wr).tail.filter (operandsMatch o 0) = [] := by
    refine List.filter_eq_nil_iff.2 fun row hrow hmatch => ?_
    obtain ⟨hmask, hwritable⟩ := wrRows_fix_offset row hrow
    obtain ⟨ho, -⟩ := (operandsMatch_iff o 0 row).1 hmatch
    rw [hmask, BitVec.and_allOnes] at ho
    rw [← ho, h] at hwritable
    cases hwritable
  rw [rowDecode_wr_eq, rowsOfKind_wr, List.filter_cons_of_pos hgeneric, hspecial]
  rfl

/-- Where a WR_* row matches beside the generic one, its mask has more bits. -/
theorem rowDecode_wr (o : Offset) (d : HostWord) : rowDecode o d .wr = some (decodeWr o d) := by
  cases h : writableOffsets.contains o with
  | false => rw [rowDecode_wr_generic h, decodeWr_of_not_writable h]
  | true =>
    rw [rowDecode_wr_eq]
    have hmem : o ∈ writableOffsets := by simpa using h
    simp only [writableOffsets, List.mem_cons, List.not_mem_nil, or_false] at hmem
    obtain rfl | rfl | rfl | rfl | rfl | rfl | rfl := hmem <;> rfl

/-! ### The two decoders agree -/

theorem rowDecode_eq_decodeOperands (o : Offset) (d : HostWord) (k : Kind) :
    rowDecode o d k = (decodeOperands o d k).toOption := by
  cases k with
  | rd => exact rowDecode_rd o d
  | wr => exact rowDecode_wr o d
  | evTick => exact rowDecode_evTick o d
  | evPulse => exact rowDecode_bare rfl rfl rfl rfl rfl (fun _ _ => rfl) o d
  | evButton => exact rowDecode_bare rfl rfl rfl rfl rfl (fun _ _ => rfl) o d
  | evPtClk => exact rowDecode_bare rfl rfl rfl rfl rfl (fun _ _ => rfl) o d
  | evPwmClk => exact rowDecode_bare rfl rfl rfl rfl rfl (fun _ _ => rfl) o d
  | dsp => exact rowDecode_bare rfl rfl rfl rfl rfl (fun _ _ => rfl) o d
  | rst => exact rowDecode_bare rfl rfl rfl rfl rfl (fun _ _ => rfl) o d

theorem decode_toOption_eq_tableDecode (w : Word) : (decode w).toOption = tableDecode w := by
  unfold decode
  cases hkind : kindOf (kindField w) with
  | none => exact (tableDecode_of_unknownKind hkind).symm
  | some k =>
    by_cases hrsv : rsvField w = 0
    · rw [tableDecode_of_kind hkind hrsv, rowDecode_eq_decodeOperands]
      simp only [hrsv, ne_eq, not_true_eq_false, if_false]
    · rw [tableDecode_of_rsv hrsv]
      simp only [ne_eq, hrsv, not_false_eq_true, if_true]
      rfl

/-- Settles O3: the KIND selects the rows of the table, whose operand bits ask for what the decoder checks; of the rows
of WR the one for a single offset is the heavier. -/
theorem decodeFollowsOpcodeTable : Obligations.DecodeFollowsOpcodeTable := by
  intro w
  rw [← decode_toOption_eq_tableDecode]
  cases decode w <;> rfl

end Sys2Proof.Proofs
end

section
/-! PROOFS. Steps and runs (R5, R360, R432): a step in terms of the next word, and a run over the words of a list of
operations as their effects on the registers, one after another. -/

namespace Sys2Proof.Proofs

open Sys2Proof.Machine Sys2Proof.Claims

/-! ### One step -/

theorem step_of_decode_ok {s : State} {w : Word} {rest : List Word} {i : Instr} (hops : s.ops = w :: rest)
    (h : decode w = .ok i) : step s = exec i { s with ops := rest } := by
  rw [step, fetch, hops]
  simp only [h]

theorem step_of_no_word {s : State} (hops : s.ops = []) : step s = .fault .traceEnded := by
  rw [step, fetch, hops]

/-- No operation faults and none is refused: an RD or a WR answers by the common check, the others complete. -/
theorem exec_answers (i : Instr) (s : State) : ∃ t, exec i s = .next t := by
  cases i with
  | rd o =>
    cases h : checkAccess o with
    | none => exact ⟨_, exec_rd_of_checked h s⟩
    | some reason => exact ⟨_, exec_rd_of_busError h s⟩
  | wr o d =>
    cases h : checkAccess o with
    | none => exact ⟨_, exec_wr_of_checked h d s⟩
    | some reason => exact ⟨_, exec_wr_of_busError h d s⟩
  | _ => exact ⟨_, rfl⟩

/-- Settles O7: the step takes the word and performs what it decodes to. -/
theorem stepRunsTheDecodedOperation : Obligations.StepRunsTheDecodedOperation := fun _ _ _ _ => step_of_decode_ok

/-- Settles O8: the step of a rejected word raises IllegalOp, which changes the outcome alone. -/
theorem stepRaisesIllegalOp : Obligations.StepRaisesIllegalOp := fun _ _ _ _ => step_of_decode_error

/-- Settles O9: a word that is left decodes to an operation, which answers, or is raised as IllegalOp. -/
theorem stepStopsOnlyAtTraceEnd : Obligations.StepStopsOnlyAtTraceEnd := by
  intro s
  cases hops : s.ops with
  | nil => exact step_of_no_word hops
  | cons w rest =>
    refine show ∃ t, step s = .next t from ?_
    cases h : decode w with
    | error e => exact ⟨_, step_of_decode_error hops h⟩
    | ok i =>
      rw [step_of_decode_ok hops h]
      exact exec_answers i _

/-! ### Runs over a list of operations -/

/-- The registers after some operations, one after another. -/
def regsAfterAll (p : Params) (is : List Instr) (r : Regs) : Regs := is.foldl (Laws.regsAfter p) r

theorem regsAfterAll_append (p : Params) (is js : List Instr) (r : Regs) :
    regsAfterAll p (is ++ js) r = regsAfterAll p js (regsAfterAll p is r) :=
  List.foldl_append

theorem step_of_encode {s : State} {i : Instr} {rest : List Word} (hwf : i.wellFormed = true)
    (hops : s.ops = encode i :: rest) :
    ∃ t, step s = .next t ∧ t.ops = rest ∧ t.regs = Laws.regsAfter Config.params s.regs i := by
  obtain ⟨t, ht⟩ := exec_answers i { s with ops := rest }
  obtain ⟨hrest, hregs⟩ := Laws.exec_regs ht
  exact ⟨t, (step_of_decode_ok hops (decode_encode hwf)).trans ht, hrest, hregs⟩

theorem run_succ {s t : State} (h : step s = .next t) (n : ℕ) :
    Host.Core.run Sys2Proof.core (n + 1) s = Host.Core.run Sys2Proof.core n t := by
  have hcore : Sys2Proof.core.step s = .next t := h
  simp only [Host.Core.run, hcore]

/-- A run over the words of some operations takes just these words and performs the operations in their order. -/
theorem run_encoded {is : List Instr} (hwf : ∀ i ∈ is, i.wellFormed = true) {s : State} {rest : List Word}
    (hops : s.ops = is.map encode ++ rest) :
    ∃ t : State, Host.Core.run Sys2Proof.core is.length s = .next t ∧ t.ops = rest ∧
      t.regs = regsAfterAll Config.params is s.regs := by
  induction is generalizing s with
  | nil => exact ⟨s, rfl, hops, rfl⟩
  | cons i is ih =>
    obtain ⟨hi, his⟩ := List.forall_mem_cons.1 hwf
    obtain ⟨u, hstep, hrest, hregs⟩ := step_of_encode hi hops
    obtain ⟨t, hrun, hdone, hfinal⟩ := ih his hrest
    exact ⟨t, (run_succ hstep is.length).trans hrun, hdone, by rw [hfinal, hregs]; rfl⟩

/-! ### Traces as text (R138) -/

/-- Settles O6: a line packs the fields of its operation as the encoder does, a WR_* the offset of its register. -/
theorem disassembledLinesAssembleBack : Obligations.DisassembledLinesAssembleBack := by
  intro i
  cases i <;> rfl

end Sys2Proof.Proofs
end

section
/-! PROOFS. Single accesses and events: RD and WR at each register of the map (R161, R162), the write rules of SETPOINT,
PWM_PERIOD, STALL_LIMIT and IRQ_EN (R167-R170), and EV_PULSE, EV_BUTTON and EV_PWM_CLK (R333-R339). -/

namespace Sys2Proof.Proofs

open Sys2Proof.Machine Sys2Proof.Claims

/-! ### Accesses at a register of the map (R33) -/

theorem checkAccess_regOffset (x : Reg) : checkAccess (regOffset x) = none := by
  cases x <;> rfl

theorem exec_rd_regOffset (x : Reg) (s : State) :
    exec (.rd (regOffset x)) s = .next (completeRead s (readReg s.regs x)) := by
  rw [exec_rd_of_checked (checkAccess_regOffset x), readback_regOffset]

theorem exec_wr_regOffset (x : Reg) (d : HostWord) (s : State) :
    exec (.wr (regOffset x) d) s = .next (complete s (writeWindow (regOffset x) d s.regs)) :=
  exec_wr_of_checked (checkAccess_regOffset x) d s

theorem toNat_encode_rd (o : Offset) : (encode (.rd o)).toNat = 0x0100000000000000 + o.toNat * 0x100000000 := by
  rw [encode, Laws.toNat_opWord]
  simp

/-! ### RD (R161) -/

/-- The number of a flag's bit. -/
def bitValue (b : Bool) : ℕ := if b then 1 else 0

/-- The number of STATE in STATUS (R36). -/
def stateNumber : SchedState → ℕ
  | .idle => 0
  | .sampling => 1
  | .evaluating => 2

theorem readReg_ctrl (r : Regs) : readReg r .ctrl = BitVec.ofNat 32 (bitValue r.run) := by
  change (BitVec.ofBool r.run).setWidth 32 = _
  cases r.run <;> rfl

/-- STATUS is the sum of its fields at their places (R35). -/
theorem readReg_status (r : Regs) :
    readReg r .status = BitVec.ofNat 32 (stateNumber r.state + 4 * bitValue r.drdy + 8 * bitValue r.stalled +
      16 * bitValue r.pwmPhaseOn + 32 * bitValue r.pwmLine + 64 * bitValue r.pwmRunning) := by
  have hsum : ∀ running line phaseOn stalled drdy : Bool, ∀ code < 3,
      (BitVec.ofBool running ++ BitVec.ofBool line ++ BitVec.ofBool phaseOn ++ BitVec.ofBool stalled ++
        BitVec.ofBool drdy ++ BitVec.ofNat 2 code).setWidth 32 =
      BitVec.ofNat 32 (code + 4 * bitValue drdy + 8 * bitValue stalled + 16 * bitValue phaseOn +
        32 * bitValue line + 64 * bitValue running) := by
    decide
  have hcode : stateCode r.state = BitVec.ofNat 2 (stateNumber r.state) := by cases r.state <;> rfl
  change (statusBits r).setWidth 32 = _
  rw [statusBits, hcode]
  exact hsum _ _ _ _ _ _ (by cases r.state <;> decide)

/-- The read table of the whole map, CTRL and STATUS by the numbers of their fields. -/
theorem readTable_eq (r : Regs) :
    allRegs.map (fun x => (regOffset x, readReg r x)) =
      [(0x000, 0x50494431#32), (0x004, BitVec.ofNat 32 (bitValue r.run)),
      (0x008, BitVec.ofNat 32 (stateNumber r.state + 4 * bitValue r.drdy + 8 * bitValue r.stalled +
        16 * bitValue r.pwmPhaseOn + 32 * bitValue r.pwmLine + 64 * bitValue r.pwmRunning)),
      (0x00C, r.setpoint.setWidth 32), (0x010, r.pwmPeriod.setWidth 32), (0x014, r.stallLimit.setWidth 32),
      (0x018, r.irqEn.setWidth 32), (0x01C, r.irqPend.setWidth 32), (0x020, r.irqOvr.setWidth 32),
      (0x024, r.loopPeriod.setWidth 32), (0x028, r.tickCnt.setWidth 32), (0x02C, r.pulseCnt), (0x030, r.ptRemain),
      (0x034, q16 r.residue), (0x038, q16 r.measRpm), (0x03C, q16 r.iState), (0x040, q16 r.pidOut),
      (0x044, r.duty.setWidth 32), (0x048, r.pwmReload), (0x04C, r.pwmCount), (0x050, r.curSum),
      (0x054, r.curCnt.setWidth 32), (0x058, q16 r.rpmSum), (0x05C, r.rpmCnt.setWidth 32), (0x060, int32 r.pubRpm),
      (0x064, q16 r.pubCurr), (0x068, q16 r.pubCurrRaw), (0x06C, r.pubSeq), (0x070, r.idleTicks.setWidth 32),
      (0x074, r.adcLatch.setWidth 32)] := by
  rw [← readReg_ctrl, ← readReg_status]
  rfl

/-- Settles O10: the table lists each register at its offset with its readback value, which an RD there answers. -/
theorem rdReturnsEachRegister : Obligations.RdReturnsEachRegister := by
  intro s r bit stateNumber x hx
  have hmem : x ∈ allRegs.map (fun reg => (regOffset reg, readReg r reg)) := readTable_eq r ▸ hx
  obtain ⟨reg, -, rfl⟩ := List.mem_map.1 hmem
  exact ⟨toNat_encode_rd (regOffset reg), exec_rd_regOffset reg s⟩

/-! ### WR at the writable offsets (R162) -/

/-- Settles O14: the map has at each of these offsets the register whose write rule its WR_* performs. -/
theorem genericWrSelectsTheRegister : Obligations.GenericWrSelectsTheRegister := fun s d =>
  ⟨exec_wr_regOffset .ctrl d s, exec_wr_regOffset .status d s, exec_wr_regOffset .setpoint d s,
    exec_wr_regOffset .pwmPeriod d s, exec_wr_regOffset .stallLimit d s, exec_wr_regOffset .irqEn d s,
    exec_wr_regOffset .irqOvr d s⟩

/-! ### SETPOINT, PWM_PERIOD, STALL_LIMIT and IRQ_EN (R167-R170) -/

theorem dataLow16_eq_ofNat (d : HostWord) : dataLow16 d = BitVec.ofNat 16 d.toNat := by
  rw [dataLow16, BitVec.ofNat_toNat, BitVec.setWidth_eq_extractLsb' (by decide)]

theorem dataLow16_eq_zero_iff (d : HostWord) : dataLow16 d = 0 ↔ d.toNat % 65536 = 0 := by
  rw [dataLow16_eq_ofNat, ← BitVec.toNat_inj, BitVec.toNat_ofNat]
  rfl

theorem exec_wrSetpoint (d : HostWord) (s : State) :
    exec (.wrSetpoint d) s = .next (complete s (writeSetpoint d s.regs)) := rfl

theorem exec_wrPwmPeriod (d : HostWord) (s : State) :
    exec (.wrPwmPeriod d) s = .next (complete s (writePwmPeriod d s.regs)) := rfl

theorem exec_wrStallLimit (d : HostWord) (s : State) :
    exec (.wrStallLimit d) s = .next (complete s (writeStallLimit d s.regs)) := rfl

theorem exec_wrIrqEn (d : HostWord) (s : State) :
    exec (.wrIrqEn d) s = .next (complete s (writeIrqEn d s.regs)) := rfl

theorem writePwmPeriod_eq (d : HostWord) (r : Regs) :
    writePwmPeriod d r =
      { r with pwmPeriod := if d.toNat % 65536 = 0 then r.pwmPeriod else BitVec.ofNat 16 d.toNat } := by
  have hzero := dataLow16_eq_zero_iff d
  unfold writePwmPeriod
  by_cases h : d.toNat % 65536 = 0
  · rw [if_neg (not_not.2 (hzero.2 h)), if_pos h]
  · rw [if_pos (mt hzero.1 h), if_neg h, dataLow16_eq_ofNat]

/-- Settles O17: the write takes the low half of DATA and is a sign of life. -/
theorem wrSetpointWritesAndClearsStall : Obligations.WrSetpointWritesAndClearsStall := by
  intro s d
  refine ⟨toNat_encode_wr 0x00C d, ?_⟩
  rw [exec_wrSetpoint, writeSetpoint, dataLow16_eq_ofNat]
  rfl

/-- Settles O18: the guard of the write is that the low half of DATA is not 0. -/
theorem wrPwmPeriodIgnoresZero : Obligations.WrPwmPeriodIgnoresZero := by
  intro s d
  refine ⟨toNat_encode_wr 0x010 d, ?_⟩
  rw [exec_wrPwmPeriod, writePwmPeriod_eq]
  rfl

/-- Settles O19: the write takes the low half of DATA. -/
theorem wrStallLimitWritesLowHalf : Obligations.WrStallLimitWritesLowHalf := by
  intro s d
  refine ⟨toNat_encode_wr 0x014 d, ?_⟩
  rw [exec_wrStallLimit, writeStallLimit, dataLow16_eq_ofNat]
  rfl

/-- Settles O20: the write takes the low four bits of DATA. -/
theorem wrIrqEnWritesEnables : Obligations.WrIrqEnWritesEnables := by
  intro s d
  refine ⟨toNat_encode_wr 0x018 d, ?_⟩
  rw [exec_wrIrqEn, writeIrqEn, dataLow4_eq_ofNat]
  rfl

/-! ### EV_PULSE (R333, R202, R365) -/

theorem pulseEvent_eq (p : Params) (r : Regs) :
    pulseEvent p r =
      { r with
        ptRemain := p.ptPeriod
        irqPend := if r.run then r.irqPend ||| 4 else r.irqPend
        irqOvr := if r.run ∧ r.irqPend.getLsbD 2 then r.irqOvr ||| 4 else r.irqOvr } := by
  unfold pulseEvent
  by_cases hrun : r.run = true
  · rw [if_pos hrun, if_pos hrun, Laws.setPending_eq]
    simp only [and_iff_right hrun]
    rfl
  · rw [if_neg hrun, if_neg hrun, if_neg (mt And.left hrun)]
    rfl

theorem exec_evPulse (s : State) : exec .evPulse s = .next (complete s (pulseEvent Config.params s.regs)) := rfl

/-- Settles O23: the restart does not depend on RUN, the request does; bit 2 is the bit of PULSE. -/
theorem evPulseRestartsTimerAndRequests : Obligations.EvPulseRestartsTimerAndRequests := by
  intro s
  refine ⟨rfl, ?_⟩
  rw [exec_evPulse, pulseEvent_eq]
  rfl

/-! ### EV_BUTTON (R336, R365) -/

theorem exec_evButton (s : State) : exec .evButton s = .next (complete s (buttonEvent s.regs)) := rfl

/-- Settles O24: the event is a request of BTN, whose bit is bit 3. -/
theorem evButtonRequests : Obligations.EvButtonRequests := by
  intro s
  refine ⟨rfl, ?_⟩
  rw [exec_evButton, buttonEvent, Laws.setPending_eq]
  rfl

/-! ### EV_PWM_CLK (R339, R272, R365) -/

/-- One clock of the PWM timer as one update: the three forms of R272 in the fields they write. -/
theorem pwmClock_eq (r : Regs) :
    pwmClock r =
      { r with
        pwmCount := if r.pwmRunning = true ∧ r.pwmCount.toNat ≤ 1 then r.pwmReload
          else if r.pwmRunning then BitVec.ofNat 32 (r.pwmCount.toNat - 1) else r.pwmCount
        irqPend := if r.pwmRunning = true ∧ r.pwmCount.toNat ≤ 1 then r.irqPend ||| 2 else r.irqPend
        irqOvr := if (r.pwmRunning = true ∧ r.pwmCount.toNat ≤ 1) ∧ r.irqPend.getLsbD 1 then r.irqOvr ||| 2
          else r.irqOvr } := by
  rcases Laws.pwmClock_cases r with ⟨hstopped, e⟩ | ⟨hrunning, hcount, e⟩ | ⟨hrunning, hcount, e⟩ <;> rw [e]
  · have hexpires : ¬(r.pwmRunning = true ∧ r.pwmCount.toNat ≤ 1) := by simp [hstopped]
    rw [if_neg hexpires, if_neg hexpires, if_neg (mt And.left hexpires), if_neg (by simp [hstopped])]
  · have hexpires : ¬(r.pwmRunning = true ∧ r.pwmCount.toNat ≤ 1) := mt And.right (not_le.2 hcount)
    rw [if_neg hexpires, if_neg hexpires, if_neg (mt And.left hexpires), if_pos hrunning, sub_one_eq_ofNat hcount]
  · have hexpires : r.pwmRunning = true ∧ r.pwmCount.toNat ≤ 1 := ⟨hrunning, hcount⟩
    rw [if_pos hexpires, if_pos hexpires, Laws.setPending_eq]
    simp only [and_iff_right hexpires]
    rfl

theorem exec_evPwmClk (s : State) : exec .evPwmClk s = .next (complete s (pwmClock s.regs)) := rfl

/-- Settles O26: EV_PWM_CLK clocks the PWM timer, which is stopped, counts or expires. -/
theorem evPwmClkCountsAndExpires : Obligations.EvPwmClkCountsAndExpires := by
  intro s r expires
  refine ⟨rfl, ?_⟩
  rw [exec_evPwmClk, pwmClock_eq]
  rfl

end Sys2Proof.Proofs
end

section
/-! PROOFS. The dispatch step (R345, R366): the choice of the source from the ready bits, and the handlers as the
updates that their rules write (R203, R276, R300, R303, R306, R341). -/

namespace Sys2Proof.Proofs

open Sys2Proof.Machine Sys2Proof.Claims

/-! ### The source taken (R364, R366) -/

theorem sourceBit_injective : Function.Injective sourceBit := by
  intro src src'
  cases src <;> cases src' <;> decide

theorem select_of_lowestBit {r : Regs} {src : Source} (h : lowestBit (ready r) = sourceBit src) :
    select r = some src := by
  cases hs : select r with
  | none =>
    rw [ready_eq_zero_of_select_none hs] at h
    exact absurd h (by cases src <;> decide)
  | some src' => rw [sourceBit_injective ((lowestBit_ready_of_select_some hs).symm.trans h)]

/-- TICK has the lowest number of all. -/
theorem lowestBit_of_tick : ∀ x : BitVec 4, x.getLsbD 0 = true → lowestBit x = 1 := by
  decide

theorem select_of_tick_ready {r : Regs} (h : (ready r).getLsbD 0 = true) : select r = some .tick :=
  select_of_lowestBit (lowestBit_of_tick _ h)

theorem tick_ready_of_select {r : Regs} (h : select r = some .tick) : (ready r).getLsbD 0 = true := by
  obtain ⟨hpending, henabled, -⟩ := Laws.select_eq_some h
  exact (getLsbD_ready .tick r).trans (by rw [hpending, henabled]; rfl)

theorem dispatchStep_of_select_some {r : Regs} {src : Source} (h : select r = some src) (p : Params) :
    dispatchStep p r = handler p src (clearPending src r) := by
  rw [dispatchStep, h]
  rfl

theorem dispatchStep_irqEn (p : Params) (r : Regs) : (dispatchStep p r).irqEn = r.irqEn := by
  rcases Laws.dispatchStep_cases p r with ⟨-, e⟩ | ⟨src, -, e⟩ <;> rw [e]
  obtain ⟨-, hen, -⟩ := Laws.handler_irq p src (clearPending src r)
  rw [hen, Laws.clearPending_irqEn]

/-- Settles O28: no handler changes an interrupt bit, and the dispatch step clears that of the lowest ready source. -/
theorem dspTakesTheLowestNumberedSource : Obligations.DspTakesTheLowestNumberedSource := fun s =>
  ⟨_, exec_dsp s, dispatchStep_irqPend Config.params s.regs, dispatchStep_irqEn Config.params s.regs,
    dispatchStep_irqOvr Config.params s.regs, rfl, rfl⟩

/-! ### PULSE, BTN, and any of the three others while RUN = 0 (R203, R341, R348) -/

theorem add_one_eq_ofNat (n : BitVec 32) : n + 1 = BitVec.ofNat 32 (n.toNat + 1) := by
  bv_omega

/-- Settles O31: bit 2 is the bit of PULSE, whose handler counts the edge while RUN = 1. -/
theorem dspRunsPulseHandler : Obligations.DspRunsPulseHandler := by
  intro s hlowest hrun
  have hselect : select s.regs = some .pulse := select_of_lowestBit hlowest
  rw [exec_dsp, dispatchStep_of_select_some hselect, ← add_one_eq_ofNat]
  rcases Laws.onPulseEdge_cases (clearPending .pulse s.regs) with ⟨hidle, -⟩ | ⟨-, e⟩
  · exact absurd (hrun.symm.trans hidle) nofun
  · rw [handler, e]
    rfl

/-- Settles O32: bit 3 is the bit of BTN, whose handler does not ask for RUN. -/
theorem dspRunsButtonHandler : Obligations.DspRunsButtonHandler := by
  intro s hlowest
  have hselect : select s.regs = some .btn := select_of_lowestBit hlowest
  rw [exec_dsp, dispatchStep_of_select_some hselect]
  rfl

/-- Settles O33: the bits 0 to 2 are those of TICK, PWM and PULSE, whose handlers return at once while RUN = 0. -/
theorem dspWhileIdleOnlyClearsThePendingBit : Obligations.DspWhileIdleOnlyClearsThePendingBit := by
  intro s hidle hlowest
  have hsource : ∃ src : Source, src ≠ .btn ∧ lowestBit (ready s.regs) = sourceBit src := by
    simp only [List.mem_cons, List.not_mem_nil, or_false] at hlowest
    rcases hlowest with h | h | h
    · exact ⟨.tick, nofun, h⟩
    · exact ⟨.pwm, nofun, h⟩
    · exact ⟨.pulse, nofun, h⟩
  obtain ⟨src, hbtn, hbit⟩ := hsource
  have hcleared : (clearPending src s.regs).run = false := hidle
  rw [exec_dsp, dispatchStep_of_select_some (select_of_lowestBit hbit), Laws.handler_of_idle _ hbtn hcleared, hbit]
  rfl

/-! ### TICK (R300): the sample -/

theorem nextIdleTicks_eq (t : BitVec 16) : nextIdleTicks t = if t = 0xFFFF then 0xFFFF else t + 1 := by
  unfold nextIdleTicks
  split_ifs with h
  · rw [h]
    rfl
  · bv_omega

theorem stallDetected_eq (limit t : BitVec 16) :
    stallDetected limit t = decide (limit ≠ 0 ∧ limit.toNat ≤ t.toNat) := by
  rw [stallDetected, Bool.eq_iff_iff]
  simp

theorem sampleTick_eq_sampled (p : Params) (r : Regs) : sampleTick p r = sampled p r := by
  unfold sampleTick countTick curAccumulate sampled
  simp only [nextIdleTicks_eq, stallDetected_eq, ← add_sub_assoc]
  rfl

/-! ### TICK: the evaluation (R303) -/

theorem rpmScale_eq (p : Params) (period : BitVec 16) :
    rpmScale p period =
      if p.rpmScaleMode = .exact then 1000 / (period.toNat : ℚ) else (⌊(1000 / period.toNat : ℚ)⌋ : ℚ) := by
  unfold rpmScale
  cases p.rpmScaleMode with
  | exact => rfl
  | trunc =>
    have hfloor : ⌊(1000 : ℚ) / (period.toNat : ℚ)⌋ = ((1000 / period.toNat : ℕ) : ℤ) :=
      mod_cast Rat.floor_natCast_div_natCast 1000 period.toNat
    rw [if_neg nofun, hfloor, Int.cast_natCast]

theorem pulseAccumulator_eq (p : Params) (r : Regs) :
    pulseAccumulator p r =
      r.pulseCnt.toNat + r.residue + if p.rpmFractionMode = .addAndCarry then timerFraction p r else 0 := by
  unfold pulseAccumulator
  cases p.rpmFractionMode <;> simp

/-- The floor of a PID_OUT that is not negative is a natural number (R309). -/
theorem dutyFor_eq (stalled : Bool) {x : ℚ} (h : 0 ≤ x) :
    dutyFor stalled x = if stalled then 0 else BitVec.ofNat 7 ⌊x⌋₊ := by
  have hfloor : x.floor = ((⌊x⌋₊ : ℕ) : ℤ) := (Int.natCast_floor_eq_floor h).symm
  rw [dutyFor, wrap, hfloor, BitVec.ofInt_natCast]

theorem evaluate_eq_evaluated (p : Params) (r : Regs) : evaluate p r = evaluated p r := by
  obtain ⟨rpm, i, pid, hrpm, hi, hpid, e⟩ := Laws.evaluate_eq p r
  have hpid0 : 0 ≤ pid := hpid ▸ (Laws.clamp_mem (by norm_num)).1
  rw [rpmScale_eq, pulseAccumulator_eq] at hrpm
  rw [integrate_eq_max_min] at hi
  rw [Laws.clamp_eq_max_min (by norm_num)] at hpid
  rw [e, dutyFor_eq r.stalled hpid0, loopPeriodFor_eq_loopPeriod, hpid, hi, hrpm]
  rfl

/-! ### TICK: the close of the window (R306) -/

theorem averageRpm_eq (r : Regs) :
    averageRpm r = if r.rpmCnt = 0 then 0 else towardZero (r.rpmSum / r.rpmCnt.toNat) := by
  rw [averageRpm, trunc_eq_towardZero]

theorem closeWindow_eq_closed (p : Params) (r : Regs) : closeWindow p r = closed p r := by
  rw [Laws.closeWindow_eq, averageRpm_eq]
  rfl

theorem onTick_eq_ticked (p : Params) {r : Regs} (h : r.run = true) : onTick p r = ticked p r := by
  rw [onTick, if_pos h, closeIfDue, evaluateIfDue, sampleTick_eq_sampled, evaluate_eq_evaluated, closeWindow_eq_closed]
  rfl

/-- Settles O29: the handler of TICK is the three parts of the statement in their order, each the model's own. -/
theorem dspRunsTickHandler : Obligations.DspRunsTickHandler := by
  intro s hready hrun
  have hrunning : (clearPending .tick s.regs).run = true := hrun
  rw [exec_dsp, dispatchStep_of_select_some (select_of_tick_ready hready), handler, onTick_eq_ticked _ hrunning]
  rfl

/-! ### PWM (R276, R280) -/

theorem wrap_natCast (n : ℕ) : wrap 32 (n : ℤ) = BitVec.ofNat 32 n := BitVec.ofInt_natCast 32 n

/-- The reload of a phase is a positive number while the duty is neither 0 nor 100 (R278, R279). -/
theorem phaseReload_eq {period : BitVec 16} {pct : BitVec 7} (hperiod : 1 ≤ period.toNat) (hpct : pct.toNat ≤ 100)
    (h0 : pct.toNat ≠ 0) (h100 : pct.toNat ≠ 100) (phaseOn : Bool) :
    phaseReload period pct phaseOn =
        ((if phaseOn then period.toNat * (100 - pct.toNat) else period.toNat * pct.toNat : ℕ) : ℤ) ∧
      0 < phaseReload period pct phaseOn := by
  have heq : phaseReload period pct phaseOn =
      ((if phaseOn then period.toNat * (100 - pct.toNat) else period.toNat * pct.toNat : ℕ) : ℤ) := by
    unfold phaseReload
    split_ifs <;> push_cast [hpct] <;> rfl
  refine ⟨heq, heq ▸ ?_⟩
  split_ifs
  · exact_mod_cast Nat.mul_pos hperiod (by omega)
  · exact_mod_cast Nat.mul_pos hperiod (by omega)

theorem setDuty_eq_phaseFlipped {period : BitVec 16} {pct : BitVec 7} (hperiod : 1 ≤ period.toNat)
    (hpct : pct.toNat ≤ 100) (r : Regs) : setDuty period pct r = phaseFlipped period.toNat pct.toNat r := by
  have hzero : pct = 0 ↔ pct.toNat = 0 := by rw [← BitVec.toNat_inj]; rfl
  have hfull : pct = 100 ↔ pct.toNat = 100 := by rw [← BitVec.toNat_inj]; rfl
  unfold phaseFlipped
  rcases Laws.setDuty_cases period pct r with ⟨h0, e⟩ | ⟨h100, e⟩ | ⟨h0, h100, hneg, -⟩ | ⟨h0, h100, -, e⟩
  · rw [if_pos (hzero.1 h0), e]
  · rw [if_neg (by rw [hfull.1 h100]; decide), if_pos (hfull.1 h100), e]
  · obtain ⟨-, hpos⟩ := phaseReload_eq hperiod hpct (mt hzero.2 h0) (mt hfull.2 h100) r.pwmPhaseOn
    exact absurd hpos (not_lt.2 hneg)
  · obtain ⟨hreload, -⟩ := phaseReload_eq hperiod hpct (mt hzero.2 h0) (mt hfull.2 h100) r.pwmPhaseOn
    rw [if_neg (mt hzero.2 h0), if_neg (mt hfull.2 h100), e, hreload, wrap_natCast]

/-- The handler of PWM in a state with a PWM period and a duty in their ranges. -/
theorem onPeriodElapsed_eq_phaseFlipped {r : Regs} (hrun : r.run = true) (hperiod : 1 ≤ r.pwmPeriod.toNat)
    (hduty : r.duty.toNat ≤ 100) :
    onPeriodElapsed r = phaseFlipped r.pwmPeriod.toNat r.duty.toNat r := by
  rw [onPeriodElapsed, if_pos hrun, setDuty_eq_phaseFlipped hperiod hduty]

/-- Settles O30: bit 1 is the bit of PWM, and a well-formed state has a PWM period and a duty in their ranges. -/
theorem dspRunsPwmHandler : Obligations.DspRunsPwmHandler := by
  intro s hwf hlowest hrun
  have hselect : select s.regs = some .pwm := select_of_lowestBit hlowest
  have hflip := onPeriodElapsed_eq_phaseFlipped (r := clearPending .pwm s.regs) hrun hwf.pwmPeriod_ge hwf.duty_le
  rw [exec_dsp, dispatchStep_of_select_some hselect, handler, hflip]
  rfl

/-! ### Four dispatch steps (R347) -/

/-- Each of four steps clears the lowest of the enabled pending bits, and there are four bits. -/
theorem clear_lowestBit_four_times : ∀ x en : BitVec 4,
    ((fun y => y &&& ~~~ lowestBit (y &&& en))^[4]) x = x &&& ~~~ en := by
  decide

/-- Settles O34: four steps clear the lowest ready bit four times, and leave IRQ_EN. -/
theorem fourDispatchesDrainTheReadySources : Obligations.FourDispatchesDrainTheReadySources := by
  intro s rest hops
  obtain ⟨t, hrun, hrest, hregs⟩ := run_encoded (is := List.replicate 4 .dsp) (by decide) hops
  refine ⟨t, hrun, ?_, ?_, hrest⟩
  · rw [hregs, ← clear_lowestBit_four_times]
    simp only [regsAfterAll, List.replicate, List.foldl, Laws.regsAfter, dispatchStep_irqPend, dispatchStep_irqEn,
      ready]
    rfl
  · rw [hregs]
    simp only [regsAfterAll, List.replicate, List.foldl, Laws.regsAfter, dispatchStep_irqEn]

end Sys2Proof.Proofs
end

section
/-! PROOFS. What a step can do to the registers of the control loop and of the report window, said once: nothing, a
start, a reset or a tick; and before that the gate of RUN over the sources and the PWM timer (R340, R271). -/

namespace Sys2Proof.Proofs

open Sys2Proof.Machine Sys2Proof.Claims

/-! ### Steps as operations on the registers -/

theorem step_regs_cases {s t : State} (h : step s = .next t) :
    t.regs = s.regs ∨ ∃ i : Instr, i.wellFormed = true ∧ t.regs = Laws.regsAfter Config.params s.regs i := by
  obtain ⟨w, rest, -, ⟨_, -, rfl⟩ | ⟨i, hdecode, hexec⟩⟩ := Laws.step_cases h
  · exact .inl rfl
  · exact .inr ⟨i, (encode_of_decode hdecode).1, (Laws.exec_regs hexec).2⟩

/-! ### The gate of RUN (R340, R348, R271) -/

section

variable {p : Params} {r : Regs}

/-- While RUN = 1 only the PWM timer is bound. -/
theorem gatedByRun_of_running (hrun : r.run = true) (htimer : r.pwmRunning = true) : r.GatedByRun where
  no_tick hidle := absurd (hrun.symm.trans hidle) nofun
  no_pwm hidle := absurd (hrun.symm.trans hidle) nofun
  no_pulse hidle := absurd (hrun.symm.trans hidle) nofun
  timer_runs := htimer.trans hrun.symm

theorem reset_gatedByRun (p : Params) : (Regs.reset p).GatedByRun where
  no_tick _ := BitVec.getLsbD_zero
  no_pwm _ := BitVec.getLsbD_zero
  no_pulse _ := BitVec.getLsbD_zero
  timer_runs := rfl

theorem pending_clearPending_of_not (src src' : Source) (h : pending src r = false) :
    pending src (clearPending src' r) = false := by
  change (r.irqPend &&& ~~~ sourceBit src').getLsbD (sourceIndex src) = false
  rw [BitVec.getLsbD_and, show r.irqPend.getLsbD (sourceIndex src) = false from h, Bool.false_and]

theorem clearPending_gatedByRun (src : Source) (h : r.GatedByRun) : (clearPending src r).GatedByRun where
  no_tick hidle := pending_clearPending_of_not .tick src (h.no_tick hidle)
  no_pwm hidle := pending_clearPending_of_not .pwm src (h.no_pwm hidle)
  no_pulse hidle := pending_clearPending_of_not .pulse src (h.no_pulse hidle)
  timer_runs := h.timer_runs

/-- After start and stop none of the three sources is pending. -/
theorem clearLoopPending_gatedByRun (htimer : r.pwmRunning = r.run) : (clearLoopPending r).GatedByRun := by
  have hbtn : ∀ x : BitVec 4, (x &&& 8).getLsbD 0 = false ∧ (x &&& 8).getLsbD 1 = false ∧
      (x &&& 8).getLsbD 2 = false := by decide
  obtain ⟨htick, hpwm, hpulse⟩ := hbtn r.irqPend
  rw [Laws.clearLoopPending_eq]
  exact ⟨fun _ => htick, fun _ => hpwm, fun _ => hpulse, htimer⟩

/-- A request of BTN raises none of the three others. -/
theorem setPending_btn_gatedByRun (h : r.GatedByRun) : (setPending .btn r).GatedByRun := by
  have hbtn : ∀ x : BitVec 4, (x ||| 8).getLsbD 0 = x.getLsbD 0 ∧ (x ||| 8).getLsbD 1 = x.getLsbD 1 ∧
      (x ||| 8).getLsbD 2 = x.getLsbD 2 := by decide
  obtain ⟨htick, hpwm, hpulse⟩ := hbtn r.irqPend
  rw [Laws.setPending_eq]
  exact ⟨fun hidle => htick.trans (h.no_tick hidle), fun hidle => hpwm.trans (h.no_pwm hidle),
    fun hidle => hpulse.trans (h.no_pulse hidle), h.timer_runs⟩

theorem setPending_gatedByRun_of_running (src : Source) (hrun : r.run = true) (h : r.GatedByRun) :
    (setPending src r).GatedByRun := by
  rw [Laws.setPending_eq]
  exact gatedByRun_of_running hrun (h.timer_runs.trans hrun)

theorem writeCtrl_gatedByRun (d : HostWord) (h : r.GatedByRun) : (writeCtrl d r).GatedByRun := by
  rcases Laws.writeCtrl_cases d r with e | ⟨-, e⟩ | ⟨-, e⟩ <;> rw [e]
  · exact h
  · exact clearLoopPending_gatedByRun rfl
  · exact clearLoopPending_gatedByRun rfl

theorem tickEvent_gatedByRun (a : AdcCode) (h : r.GatedByRun) : (tickEvent a r).GatedByRun := by
  have hlatched : Regs.GatedByRun { r with adcLatch := a } := { h with }
  unfold tickEvent
  split_ifs with hrun
  · exact setPending_gatedByRun_of_running .tick hrun hlatched
  · exact hlatched

theorem pulseEvent_gatedByRun (h : r.GatedByRun) : (pulseEvent p r).GatedByRun := by
  have hrestarted : (ptRestart p r).GatedByRun := { h with }
  unfold pulseEvent
  split_ifs with hrun
  · exact setPending_gatedByRun_of_running .pulse hrun hrestarted
  · exact hrestarted

/-- The timer expires only while it runs, which is while RUN = 1. -/
theorem pwmClock_gatedByRun (h : r.GatedByRun) : (pwmClock r).GatedByRun := by
  rcases Laws.pwmClock_cases r with ⟨-, e⟩ | ⟨-, -, e⟩ | ⟨htimer, -, e⟩ <;> rw [e]
  · exact h
  · exact { h with }
  · exact setPending_gatedByRun_of_running .pwm (h.timer_runs.symm.trans htimer) { h with }

theorem onTick_run (p : Params) (r : Regs) : (onTick p r).run = r.run := by
  unfold onTick closeIfDue evaluateIfDue
  split_ifs <;> rfl

/-- A running timer stays running: a handler may only re-arm it (R275). -/
theorem handler_run_timer (p : Params) (src : Source) (hrun : r.run = true) (htimer : r.pwmRunning = true) :
    (handler p src r).run = true ∧ (handler p src r).pwmRunning = true := by
  cases src with
  | tick =>
    have hkept : (onTick p r).pwmRunning = r.pwmRunning := by
      unfold onTick closeIfDue evaluateIfDue
      split_ifs <;> rfl
    exact ⟨(onTick_run p r).trans hrun, hkept.trans htimer⟩
  | pwm =>
    change (onPeriodElapsed r).run = true ∧ (onPeriodElapsed r).pwmRunning = true
    rw [onPeriodElapsed, if_pos hrun]
    rcases Laws.setDuty_cases r.pwmPeriod r.duty r with ⟨-, e⟩ | ⟨-, e⟩ | ⟨-, -, -, e⟩ | ⟨-, -, -, e⟩ <;> rw [e]
    · exact ⟨hrun, htimer⟩
    · exact ⟨hrun, htimer⟩
    · exact ⟨hrun, htimer⟩
    · exact ⟨hrun, rfl⟩
  | pulse =>
    change (onPulseEdge r).run = true ∧ (onPulseEdge r).pwmRunning = true
    rcases Laws.onPulseEdge_cases r with ⟨-, e⟩ | ⟨-, e⟩ <;> rw [e] <;> exact ⟨hrun, htimer⟩
  | btn => exact ⟨hrun, htimer⟩

/-- While RUN = 0 the handlers of the three sources do nothing, and the one of BTN touches none of these registers. -/
theorem handler_gatedByRun (src : Source) (h : r.GatedByRun) : (handler p src r).GatedByRun := by
  cases hrun : r.run with
  | true =>
    obtain ⟨hrun', htimer'⟩ := handler_run_timer p src hrun (h.timer_runs.trans hrun)
    exact gatedByRun_of_running hrun' htimer'
  | false =>
    by_cases hsrc : src = .btn
    · subst hsrc
      exact { h with }
    · rw [Laws.handler_of_idle p hsrc hrun]
      exact h

theorem dispatchStep_gatedByRun (h : r.GatedByRun) : (dispatchStep p r).GatedByRun := by
  rcases Laws.dispatchStep_cases p r with ⟨-, e⟩ | ⟨src, -, e⟩ <;> rw [e]
  · exact h
  · exact handler_gatedByRun src (clearPending_gatedByRun src h)

theorem regsAfter_gatedByRun {i : Instr} (hwf : i.wellFormed = true) (h : r.GatedByRun) :
    (Laws.regsAfter p r i).GatedByRun := by
  cases i with
  | rd o => exact h
  | wr o d =>
    have hignored := Laws.writeWindow_of_not_writable (by simpa [Instr.wellFormed] using hwf) d r
    rw [Laws.regsAfter, hignored, ite_self]
    exact h
  | wrCtrl d => exact writeCtrl_gatedByRun d h
  | wrStatus d =>
    rw [Laws.regsAfter, writeStatus_eq]
    exact { h with }
  | wrPwmPeriod d =>
    rw [Laws.regsAfter, writePwmPeriod_eq]
    exact { h with }
  | wrSetpoint | wrStallLimit | wrIrqEn | wrIrqOvr | evPtClk => exact { h with }
  | evTick a => exact tickEvent_gatedByRun a h
  | evPulse => exact pulseEvent_gatedByRun h
  | evButton => exact setPending_btn_gatedByRun h
  | evPwmClk => exact pwmClock_gatedByRun h
  | dsp => exact dispatchStep_gatedByRun h
  | rst => exact reset_gatedByRun p

end

/-- Settles O39: a request of TICK, PWM or PULSE needs RUN = 1, a stop withdraws the three, and start, stop and the
handlers keep the timer running exactly with RUN. -/
theorem everyStepKeepsSourcesGatedByRun : Obligations.EveryStepKeepsSourcesGatedByRun := by
  intro s t h hstep
  obtain e | ⟨i, hwf, e⟩ := step_regs_cases hstep <;> rw [e]
  · exact h
  · exact regsAfter_gatedByRun hwf h

/-! ### The registers that only the loop writes -/

/-- The registers of the control loop that nothing but a tick, a start and a reset writes. -/
structure ControlRegs where
  loopPeriod : BitVec 16
  tickCnt : BitVec 16
  residue : ℚ
  measRpm : ℚ
  iState : ℚ
  pidOut : ℚ
  duty : BitVec 7

/-- The registers of the report window, but for those of the speed average, that nothing else writes either. -/
structure ReportRegs where
  curSum : BitVec 32
  curCnt : BitVec 11
  pubRpm : ℤ
  pubCurr : ℚ
  pubCurrRaw : ℚ
  pubSeq : BitVec 32

def controlRegs (r : Regs) : ControlRegs where
  loopPeriod := r.loopPeriod
  tickCnt := r.tickCnt
  residue := r.residue
  measRpm := r.measRpm
  iState := r.iState
  pidOut := r.pidOut
  duty := r.duty

def reportRegs (r : Regs) : ReportRegs where
  curSum := r.curSum
  curCnt := r.curCnt
  pubRpm := r.pubRpm
  pubCurr := r.pubCurr
  pubCurrRaw := r.pubCurrRaw
  pubSeq := r.pubSeq

/-- The control loop and the report window of `r'` are those of `r`. -/
structure KeepsLoop (r r' : Regs) : Prop where
  control : controlRegs r' = controlRegs r
  report : reportRegs r' = reportRegs r
  rpmCnt : r'.rpmCnt = r.rpmCnt

section

variable {p : Params} {r r' : Regs}

theorem setPending_keepsLoop (src : Source) (h : KeepsLoop r r') : KeepsLoop r (setPending src r') := by
  rw [Laws.setPending_eq]
  exact ⟨h.control, h.report, h.rpmCnt⟩

theorem tickEvent_keepsLoop (a : AdcCode) (r : Regs) : KeepsLoop r (tickEvent a r) := by
  rw [tickEvent_eq]
  exact ⟨rfl, rfl, rfl⟩

theorem pulseEvent_keepsLoop (p : Params) (r : Regs) : KeepsLoop r (pulseEvent p r) := by
  rw [pulseEvent_eq]
  exact ⟨rfl, rfl, rfl⟩

theorem pwmClock_keepsLoop (r : Regs) : KeepsLoop r (pwmClock r) := by
  rw [pwmClock_eq]
  exact ⟨rfl, rfl, rfl⟩

/-- Stop leaves the loop and the window as they are, for RD (R165). -/
theorem stop_keepsLoop (r : Regs) : KeepsLoop r (stop r) := by
  rw [stop_eq_stopped]
  exact ⟨rfl, rfl, rfl⟩

theorem onPulseEdge_keepsLoop (r : Regs) : KeepsLoop r (onPulseEdge r) := by
  rcases Laws.onPulseEdge_cases r with ⟨-, e⟩ | ⟨-, e⟩ <;> rw [e] <;> exact ⟨rfl, rfl, rfl⟩

theorem onPeriodElapsed_keepsLoop (r : Regs) : KeepsLoop r (onPeriodElapsed r) := by
  unfold onPeriodElapsed
  split_ifs
  · rcases Laws.setDuty_cases r.pwmPeriod r.duty r with ⟨-, e⟩ | ⟨-, e⟩ | ⟨-, -, -, e⟩ | ⟨-, -, -, e⟩ <;> rw [e] <;>
      exact ⟨rfl, rfl, rfl⟩
  · exact ⟨rfl, rfl, rfl⟩

/-- A dispatch step takes TICK while RUN = 1, or keeps the loop. -/
theorem dispatchStep_loop_cases (p : Params) (r : Regs) :
    KeepsLoop r (dispatchStep p r) ∨
    ((ready r).getLsbD 0 = true ∧ r.run = true ∧ dispatchStep p r = onTick p (clearPending .tick r)) := by
  rcases Laws.dispatchStep_cases p r with ⟨-, e⟩ | ⟨src, hselect, e⟩ <;> rw [e]
  · exact .inl ⟨rfl, rfl, rfl⟩
  · cases src with
    | tick =>
      rcases Laws.onTick_cases p (clearPending .tick r) with ⟨-, hidle⟩ | ⟨hrun, -⟩
      · exact .inl (by rw [handler, hidle]; exact ⟨rfl, rfl, rfl⟩)
      · exact .inr ⟨tick_ready_of_select hselect, hrun, rfl⟩
    | pwm =>
      obtain ⟨hcontrol, hreport, hcount⟩ := onPeriodElapsed_keepsLoop (clearPending .pwm r)
      exact .inl ⟨hcontrol, hreport, hcount⟩
    | pulse =>
      obtain ⟨hcontrol, hreport, hcount⟩ := onPulseEdge_keepsLoop (clearPending .pulse r)
      exact .inl ⟨hcontrol, hreport, hcount⟩
    | btn => exact .inl ⟨rfl, rfl, rfl⟩

theorem writeCtrl_loop_cases (d : HostWord) (r : Regs) :
    KeepsLoop r (writeCtrl d r) ∨ (r.run = false ∧ writeCtrl d r = start r) := by
  rcases Laws.writeCtrl_cases d r with e | h | ⟨-, e⟩
  · exact .inl (by rw [e]; exact ⟨rfl, rfl, rfl⟩)
  · exact .inr h
  · exact .inl (by rw [e]; exact stop_keepsLoop r)

/-- The generic write reaches the loop only as a write of CTRL (R162). -/
theorem writeWindow_loop_cases (o : Offset) (d : HostWord) (r : Regs) :
    KeepsLoop r (writeWindow o d r) ∨ (o = regOffset .ctrl ∧ r.run = false ∧ writeWindow o d r = start r) := by
  unfold writeWindow
  split
  case h_1 hreg =>
    have hoffset : regOffset .ctrl = o := by simpa using List.find?_some hreg
    exact (writeCtrl_loop_cases d r).imp_right fun h => ⟨hoffset.symm, h⟩
  case h_2 => exact .inl (by rw [writeStatus_eq]; exact ⟨rfl, rfl, rfl⟩)
  case h_4 => exact .inl (by rw [writePwmPeriod_eq]; exact ⟨rfl, rfl, rfl⟩)
  all_goals exact .inl ⟨rfl, rfl, rfl⟩

/-- What an operation can do to the control loop and the report window: nothing, a start, a reset or a tick. -/
theorem regsAfter_loop_cases (p : Params) (r : Regs) (i : Instr) :
    KeepsLoop r (Laws.regsAfter p r i) ∨
    ((∃ d, i = .wrCtrl d ∨ i = .wr (regOffset .ctrl) d) ∧ r.run = false ∧ Laws.regsAfter p r i = start r) ∨
    (i = .rst ∧ Laws.regsAfter p r i = Regs.reset p) ∨
    (i = .dsp ∧ (ready r).getLsbD 0 = true ∧ r.run = true ∧
      Laws.regsAfter p r i = onTick p (clearPending .tick r)) := by
  cases i with
  | wr o d =>
    change KeepsLoop r (if checkAccess o = none then writeWindow o d r else r) ∨ _
    split_ifs with hcheck
    · rcases writeWindow_loop_cases o d r with h | ⟨rfl, hidle, hstart⟩
      · exact .inl h
      · exact .inr (.inl ⟨⟨d, .inr rfl⟩, hidle, by rw [Laws.regsAfter, if_pos hcheck, hstart]⟩)
    · exact .inl ⟨rfl, rfl, rfl⟩
  | wrCtrl d =>
    rcases writeCtrl_loop_cases d r with h | h
    · exact .inl h
    · exact .inr (.inl ⟨⟨d, .inl rfl⟩, h⟩)
  | wrStatus d => exact .inl (by rw [Laws.regsAfter, writeStatus_eq]; exact ⟨rfl, rfl, rfl⟩)
  | wrPwmPeriod d => exact .inl (by rw [Laws.regsAfter, writePwmPeriod_eq]; exact ⟨rfl, rfl, rfl⟩)
  | evTick a => exact .inl (tickEvent_keepsLoop a r)
  | evPulse => exact .inl (pulseEvent_keepsLoop p r)
  | evButton => exact .inl (setPending_keepsLoop .btn ⟨rfl, rfl, rfl⟩)
  | evPwmClk => exact .inl (pwmClock_keepsLoop r)
  | dsp => exact (dispatchStep_loop_cases p r).imp_right fun h => .inr (.inr ⟨rfl, h⟩)
  | rst => exact .inr (.inr (.inl ⟨rfl, rfl⟩))
  | rd | wrSetpoint | wrStallLimit | wrIrqEn | wrIrqOvr | evPtClk => exact .inl ⟨rfl, rfl, rfl⟩

end

end Sys2Proof.Proofs
end

section
/-! PROOFS. The invariants of the control loop and of the report window (R54, R205, R263, R303), and the rules about
which operations change their registers (R175, R310): what the parts of a tick do, and then the four cases of a step. -/

namespace Sys2Proof.Proofs

open Sys2Proof.Machine Sys2Proof.Claims

/-! ### The parts of a tick (R300) -/

section

variable {p : Params} {r r' : Regs}

theorem onTick_of_running (p : Params) (h : r.run = true) :
    onTick p r = closeIfDue p (evaluateIfDue p (sampleTick p r)) := by
  rw [onTick, if_pos h]

theorem evaluateIfDue_of_due (p : Params) (h : r.tickCnt = r.loopPeriod) : evaluateIfDue p r = evaluate p r :=
  if_pos h

theorem evaluateIfDue_of_not_due (p : Params) (h : r.tickCnt ≠ r.loopPeriod) : evaluateIfDue p r = r :=
  if_neg h

theorem closeIfDue_of_due (p : Params) (h : r.curCnt = 1000) : closeIfDue p r = closeWindow p r :=
  if_pos h

theorem closeIfDue_of_not_due (p : Params) (h : r.curCnt ≠ 1000) : closeIfDue p r = r :=
  if_neg h

theorem evaluateIfDue_reportRegs (p : Params) (r : Regs) : reportRegs (evaluateIfDue p r) = reportRegs r := by
  unfold evaluateIfDue
  split_ifs <;> rfl

theorem closeIfDue_controlRegs (p : Params) (r : Regs) : controlRegs (closeIfDue p r) = controlRegs r := by
  unfold closeIfDue
  split_ifs <;> rfl

theorem evaluateIfDue_curCnt (p : Params) (r : Regs) : (evaluateIfDue p r).curCnt = r.curCnt :=
  congrArg ReportRegs.curCnt (evaluateIfDue_reportRegs p r)

/-- A tick leaves the control loop as the evaluation has left it. -/
theorem onTick_controlRegs (p : Params) (h : r.run = true) :
    controlRegs (onTick p r) = controlRegs (evaluateIfDue p (sampleTick p r)) := by
  rw [onTick_of_running p h, closeIfDue_controlRegs]

/-- A tick that closes the window publishes from what the evaluation has left. -/
theorem onTick_of_closing (p : Params) (hrun : r.run = true) (h : r.curCnt + 1 = 1000) :
    onTick p r = closeWindow p (evaluateIfDue p (sampleTick p r)) := by
  rw [onTick_of_running p hrun]
  exact closeIfDue_of_due p ((evaluateIfDue_curCnt p _).trans h)

/-- A tick that does not close the window leaves the report as the sample has left it. -/
theorem onTick_reportRegs_of_not_closing (p : Params) (hrun : r.run = true) (h : r.curCnt + 1 ≠ 1000) :
    reportRegs (onTick p r) = reportRegs (sampleTick p r) := by
  have hopen : (evaluateIfDue p (sampleTick p r)).curCnt ≠ 1000 := by
    rw [evaluateIfDue_curCnt]
    exact h
  rw [onTick_of_running p hrun, closeIfDue_of_not_due p hopen, evaluateIfDue_reportRegs]

theorem loopPeriod_le (h : r.WellFormed p) : r.loopPeriod.toNat ≤ 200 := by
  rcases h.loopPeriod_mem with e | e | e | e <;> rw [e] <;> decide

/-- In a well-formed state the count of the loop does not wrap. -/
theorem sampleTick_tickCnt_toNat (h : r.WellFormed p) : (sampleTick p r).tickCnt.toNat = r.tickCnt.toNat + 1 := by
  have hbelow := h.tickCnt_lt
  have hperiod := loopPeriod_le h
  change (r.tickCnt + 1).toNat = _
  bv_omega

theorem sampleTick_curCnt_toNat (h : r.curCnt.toNat < 1000) : (sampleTick p r).curCnt.toNat = r.curCnt.toNat + 1 := by
  change (r.curCnt + 1).toNat = _
  bv_omega

/-! ### The four cases of a step -/

/-- An invariant of the loop and the window holds after a step where it holds after a start, a reset and a tick. -/
theorem step_keeps_of_loop {P : Regs → Prop} {s t : State} (hstep : step s = .next t)
    (hkeeps : ∀ r', KeepsLoop s.regs r' → P r') (hstart : ∀ r, P (start r)) (hreset : P (Regs.reset Config.params))
    (htick : s.regs.run = true → P (onTick Config.params (clearPending .tick s.regs))) : P t.regs := by
  obtain e | ⟨i, -, e⟩ := step_regs_cases hstep <;> rw [e]
  · exact hkeeps s.regs ⟨rfl, rfl, rfl⟩
  · rcases regsAfter_loop_cases Config.params s.regs i with hkept | ⟨-, -, e'⟩ | ⟨-, e'⟩ | ⟨-, -, hrun, e'⟩
    · exact hkeeps _ hkept
    · exact e' ▸ hstart s.regs
    · exact e' ▸ hreset
    · exact e' ▸ htick hrun

theorem clearPending_keepsLoop (src : Source) (r : Regs) : KeepsLoop r (clearPending src r) :=
  ⟨rfl, rfl, rfl⟩

/-! ### The window is covered by its evaluations (R263) -/

theorem windowCovered_of_keepsLoop (hkept : KeepsLoop r r') (h : r.WindowCovered) : r'.WindowCovered := by
  have htick : r'.tickCnt = r.tickCnt := congrArg ControlRegs.tickCnt hkept.control
  have hcur : r'.curCnt = r.curCnt := congrArg ReportRegs.curCnt hkept.report
  exact ⟨by rw [hcur, htick, hkept.rpmCnt]; exact h.covered, by rw [hcur, hkept.rpmCnt]; exact h.rpmCnt_le⟩

theorem windowCovered_of_empty (hcur : r.curCnt = 0) (hrpm : r.rpmCnt = 0) : r.WindowCovered where
  covered := by rw [hcur]; exact Nat.zero_le _
  rpmCnt_le := by rw [hrpm]; exact Nat.zero_le _

/-- The evaluation takes the place of the at most 200 ticks of its cycle. -/
theorem evaluateIfDue_windowCovered (hwf : r.WellFormed p) (h : r.WindowCovered) :
    (evaluateIfDue p (sampleTick p r)).WindowCovered := by
  have hperiod := loopPeriod_le hwf
  have hbelow := hwf.tickCnt_lt
  have htick := sampleTick_tickCnt_toNat hwf
  have hcur := sampleTick_curCnt_toNat (p := p) hwf.curCnt_lt
  have hopen := hwf.curCnt_lt
  obtain ⟨hcovered, hrpm⟩ := h
  unfold evaluateIfDue
  split_ifs with hdue
  · have hrpm' : (r.rpmCnt + 1).toNat = r.rpmCnt.toNat + 1 := by bv_omega
    refine ⟨?_, ?_⟩
    · change (sampleTick p r).curCnt.toNat ≤ 200 * (r.rpmCnt + 1).toNat + 0
      omega
    · change (r.rpmCnt + 1).toNat ≤ (sampleTick p r).curCnt.toNat
      omega
  · refine ⟨?_, ?_⟩
    · change (sampleTick p r).curCnt.toNat ≤ 200 * r.rpmCnt.toNat + (sampleTick p r).tickCnt.toNat
      omega
    · change r.rpmCnt.toNat ≤ (sampleTick p r).curCnt.toNat
      omega

theorem onTick_windowCovered (hrun : r.run = true) (hwf : r.WellFormed p) (h : r.WindowCovered) :
    (onTick p r).WindowCovered := by
  rw [onTick_of_running p hrun]
  unfold closeIfDue
  split_ifs
  · exact windowCovered_of_empty rfl rfl
  · exact evaluateIfDue_windowCovered hwf h

end

/-- Settles O40: a start, a reset and a close empty the window, and a tick adds one to both sides or trades a cycle for
its evaluation. -/
theorem everyStepKeepsTheWindowCovered : Obligations.EveryStepKeepsTheWindowCovered := by
  intro s t hwf h hstep
  refine step_keeps_of_loop hstep (fun _ hkept => windowCovered_of_keepsLoop hkept h)
    (fun _ => windowCovered_of_empty rfl rfl) (windowCovered_of_empty rfl rfl) fun hrun => ?_
  exact onTick_windowCovered hrun (clearPending_wellFormed .tick hwf)
    (windowCovered_of_keepsLoop (clearPending_keepsLoop .tick s.regs) h)

/-! ### The current sum (R54, R221) -/

section

variable {p : Params} {r r' : Regs}

theorem curSumBounded_of_report (hkept : reportRegs r' = reportRegs r) (h : r.CurSumBounded) : r'.CurSumBounded := by
  have hsum : r'.curSum = r.curSum := congrArg ReportRegs.curSum hkept
  have hcur : r'.curCnt = r.curCnt := congrArg ReportRegs.curCnt hkept
  rw [Regs.CurSumBounded, hsum, hcur]
  exact h

theorem curSumBounded_of_zero (hsum : r.curSum = 0) : r.CurSumBounded := by
  rw [Regs.CurSumBounded, hsum]
  simp

theorem sampleTick_curSum_toInt (h : r.CurSumBounded) (hopen : r.curCnt.toNat < 1000) :
    (sampleTick p r).curSum.toInt = r.curSum.toInt + ((r.adcLatch.toNat : ℤ) - p.adcOffset.toNat) := by
  have hcounted : (countTick r).CurSumBounded := h
  exact Laws.curAccumulate_toInt hcounted hopen

theorem sampleTick_curSumBounded (h : r.CurSumBounded) (hopen : r.curCnt.toNat < 1000) :
    (sampleTick p r).CurSumBounded := by
  obtain ⟨hlow, hhigh⟩ := abs_le.1 h
  have hsample := r.adcLatch.isLt
  have hoffset := p.adcOffset.isLt
  rw [Regs.CurSumBounded, sampleTick_curSum_toInt h hopen, sampleTick_curCnt_toNat hopen, abs_le]
  push_cast
  constructor <;> omega

theorem onTick_curSumBounded (hrun : r.run = true) (hopen : r.curCnt.toNat < 1000) (h : r.CurSumBounded) :
    (onTick p r).CurSumBounded := by
  by_cases hclose : r.curCnt + 1 = 1000
  · rw [onTick_of_closing p hrun hclose]
    exact curSumBounded_of_zero rfl
  · exact curSumBounded_of_report (onTick_reportRegs_of_not_closing p hrun hclose) (sampleTick_curSumBounded h hopen)

end

/-- Settles O42: a sample less the offset is at most 4095 in magnitude, and counts as one. -/
theorem everyStepKeepsTheCurrentSumBounded : Obligations.EveryStepKeepsTheCurrentSumBounded := by
  intro s t hwf h hstep
  refine step_keeps_of_loop hstep (fun _ hkept => curSumBounded_of_report hkept.report h)
    (fun _ => curSumBounded_of_zero rfl) (curSumBounded_of_zero rfl) fun hrun => ?_
  exact onTick_curSumBounded hrun hwf.curCnt_lt (curSumBounded_of_report (clearPending_keepsLoop .tick s.regs).report h)

/-! ### The residue (R205, R206) -/

section

variable {p : Params} {r r' : Regs}

theorem residueCarried_of_control (hkept : controlRegs r' = controlRegs r) (h : r.ResidueCarried p) :
    r'.ResidueCarried p := by
  have hresidue : r'.residue = r.residue := congrArg ControlRegs.residue hkept
  rw [Regs.ResidueCarried, hresidue]
  exact h

theorem evaluateIfDue_residueCarried (hlow : 1 ≤ r.ptRemain.toNat) (hhigh : r.ptRemain.toNat ≤ p.ptPeriod.toNat)
    (h : r.ResidueCarried p) : (evaluateIfDue p r).ResidueCarried p := by
  unfold evaluateIfDue
  split_ifs
  · obtain ⟨h0, h1⟩ := Laws.timerFraction_mem hlow hhigh
    exact .inr ⟨timerFraction p r, h0, h1, rfl⟩
  · exact h

theorem onTick_residueCarried (hrun : r.run = true) (hwf : r.WellFormed p) (h : r.ResidueCarried p) :
    (onTick p r).ResidueCarried p :=
  residueCarried_of_control (onTick_controlRegs p hrun)
    (evaluateIfDue_residueCarried (r := sampleTick p r) hwf.ptRemain_ge hwf.ptRemain_le h)

end

/-- Settles O43: start and reset write 0, and an evaluation carries the fraction of a timer count in its range. -/
theorem everyStepKeepsTheResidueAFraction : Obligations.EveryStepKeepsTheResidueAFraction := by
  intro s t hwf h hstep
  refine step_keeps_of_loop hstep (fun _ hkept => residueCarried_of_control hkept.control h)
    (fun _ => .inl rfl) (.inl rfl) fun hrun => ?_
  exact onTick_residueCarried hrun (clearPending_wellFormed .tick hwf)
    (residueCarried_of_control (clearPending_keepsLoop .tick s.regs).control h)

/-! ### DUTY and PID_OUT (R303, R309, R314) -/

section

variable {p : Params} {r r' : Regs}

theorem dutyFollowsPid_of_control (hkept : controlRegs r' = controlRegs r) (h : r.DutyFollowsPid) :
    r'.DutyFollowsPid := by
  have hduty : r'.duty = r.duty := congrArg ControlRegs.duty hkept
  have hpid : r'.pidOut = r.pidOut := congrArg ControlRegs.pidOut hkept
  rw [Regs.DutyFollowsPid, hduty, hpid]
  exact h

/-- A floor of at most 100 fits DUTY. -/
theorem dutyFor_follows (stalled : Bool) {x : ℚ} (h0 : 0 ≤ x) (h100 : x ≤ 100) :
    (dutyFor stalled x).toNat = 0 ∨ ((dutyFor stalled x).toNat : ℤ) = x.floor := by
  have hfloor0 : 0 ≤ x.floor := Int.floor_nonneg.2 h0
  have hfloor100 : x.floor ≤ 100 := show ⌊x⌋ ≤ 100 from Int.floor_le_iff.2 (by norm_num; linarith)
  unfold dutyFor
  split_ifs
  · exact .inl rfl
  · exact .inr (wrap_toNat hfloor0 (by omega))

/-- An evaluation writes both from one clamped output. -/
theorem evaluate_dutyFollowsPid (p : Params) (r : Regs) : (evaluate p r).DutyFollowsPid := by
  obtain ⟨rpm, i, pid, -, -, hpid, e⟩ := Laws.evaluate_eq p r
  obtain ⟨h0, h100⟩ : 0 ≤ pid ∧ pid ≤ 100 := hpid ▸ Laws.clamp_mem (by norm_num)
  rw [e]
  exact dutyFor_follows r.stalled h0 h100

theorem onTick_dutyFollowsPid (hrun : r.run = true) (h : r.DutyFollowsPid) : (onTick p r).DutyFollowsPid := by
  refine dutyFollowsPid_of_control (onTick_controlRegs p hrun) ?_
  unfold evaluateIfDue
  split_ifs
  · exact evaluate_dutyFollowsPid p (sampleTick p r)
  · exact h

end

/-- Settles O44: start and reset write a DUTY of 0, and an evaluation the floor of PID_OUT or, while stalled, 0. -/
theorem everyStepKeepsDutyTheFloorOfPidOut : Obligations.EveryStepKeepsDutyTheFloorOfPidOut := by
  intro s t h hstep
  refine step_keeps_of_loop hstep (fun _ hkept => dutyFollowsPid_of_control hkept.control h)
    (fun _ => .inl rfl) (.inl rfl) fun hrun => ?_
  exact onTick_dutyFollowsPid hrun (dutyFollowsPid_of_control (clearPending_keepsLoop .tick s.regs).control h)

/-! ### The reset state (R75) -/

/-- Settles O37: reset leaves an empty window, RUN = 0 with nothing pending, and zeros in the loop. -/
theorem resetStateIsSound : Obligations.ResetStateIsSound where
  wellFormed := reset_wellFormed Config.params
  gated := reset_gatedByRun Config.params
  window := windowCovered_of_empty rfl rfl
  curSum := curSumBounded_of_zero rfl
  residue := .inl rfl
  duty := .inl rfl

/-! ### What changes the control loop (R175) -/

theorem loopState_eq_of_control {r r' : Regs} (h : controlRegs r' = controlRegs r) :
    r'.duty = r.duty ∧ r'.iState = r.iState ∧ r'.loopPeriod = r.loopPeriod ∧ r'.measRpm = r.measRpm ∧
      r'.pidOut = r.pidOut :=
  ⟨congrArg ControlRegs.duty h, congrArg ControlRegs.iState h, congrArg ControlRegs.loopPeriod h,
    congrArg ControlRegs.measRpm h, congrArg ControlRegs.pidOut h⟩

/-- Settles O45: of the four cases only an evaluation, a start and a reset write the five registers. -/
theorem loopStateChangesOnlyByEvaluationStartOrReset : Obligations.LoopStateChangesOnlyByEvaluationStartOrReset := by
  intro i s t hwf hexec hchanged
  have hregs := (Laws.exec_regs hexec).2
  have hnotkept : ¬(t.regs.duty = s.regs.duty ∧ t.regs.iState = s.regs.iState ∧
      t.regs.loopPeriod = s.regs.loopPeriod ∧ t.regs.measRpm = s.regs.measRpm ∧ t.regs.pidOut = s.regs.pidOut) := by
    tauto
  rcases regsAfter_loop_cases Config.params s.regs i with
    hkept | ⟨⟨d, hi | hi⟩, hidle, e⟩ | ⟨hi, -⟩ | ⟨hi, hready, hrun, e⟩
  · exact absurd (loopState_eq_of_control (hregs ▸ hkept.control)) hnotkept
  · exact .inr (.inl ⟨⟨d, hi⟩, hidle, by rw [hregs, e]; rfl⟩)
  · subst hi
    cases hwf
  · exact .inr (.inr hi)
  · have hcleared : (clearPending .tick s.regs).run = true := hrun
    refine .inl ⟨hi, hready, hrun, by_contra fun hnotdue => hnotkept ?_⟩
    have hkept : controlRegs t.regs = controlRegs (sampleTick Config.params (clearPending .tick s.regs)) := by
      rw [hregs, e, onTick_controlRegs Config.params hcleared]
      exact congrArg controlRegs (evaluateIfDue_of_not_due Config.params hnotdue)
    have hloop := loopState_eq_of_control hkept
    exact hloop

/-! ### What changes the report (R310, R311) -/

theorem published_eq_of_report {r r' : Regs} (h : reportRegs r' = reportRegs r) :
    r'.pubRpm = r.pubRpm ∧ r'.pubCurr = r.pubCurr ∧ r'.pubCurrRaw = r.pubCurrRaw ∧ r'.pubSeq = r.pubSeq :=
  ⟨congrArg ReportRegs.pubRpm h, congrArg ReportRegs.pubCurr h, congrArg ReportRegs.pubCurrRaw h,
    congrArg ReportRegs.pubSeq h⟩

/-- A tick on the 1000th sample publishes under the next number and leaves the window empty. -/
theorem onTick_publishes {p : Params} {r : Regs} (hrun : r.run = true) (hclose : r.curCnt + 1 = 1000) :
    (onTick p r).pubSeq = r.pubSeq + 1 ∧ (onTick p r).drdy = true ∧ (onTick p r).curCnt = 0 ∧
      (onTick p r).rpmCnt = 0 := by
  have hseq : (evaluateIfDue p (sampleTick p r)).pubSeq = r.pubSeq :=
    congrArg ReportRegs.pubSeq (evaluateIfDue_reportRegs p (sampleTick p r))
  rw [onTick_of_closing p hrun hclose]
  exact ⟨congrArg (· + 1) hseq, rfl, rfl, rfl⟩

/-- Settles O47: of the four cases only a tick on the 1000th sample publishes. -/
theorem publishedValuesChangeInOneStep : Obligations.PublishedValuesChangeInOneStep := by
  intro i s t hrst hexec hchanged
  have hregs := (Laws.exec_regs hexec).2
  have hnotkept : ¬(t.regs.pubRpm = s.regs.pubRpm ∧ t.regs.pubCurr = s.regs.pubCurr ∧
      t.regs.pubCurrRaw = s.regs.pubCurrRaw ∧ t.regs.pubSeq = s.regs.pubSeq) := by
    tauto
  rcases regsAfter_loop_cases Config.params s.regs i with
    hkept | ⟨-, -, e⟩ | ⟨hi, -⟩ | ⟨hi, -, hrun, e⟩
  · exact absurd (published_eq_of_report (hregs ▸ hkept.report)) hnotkept
  · have hstarted : t.regs = started s.regs := by rw [hregs, e, start_eq_started]
    exact absurd (by rw [hstarted]; exact ⟨rfl, rfl, rfl, rfl⟩) hnotkept
  · exact absurd hi hrst
  · have hcleared : (clearPending .tick s.regs).run = true := hrun
    by_cases hclose : s.regs.curCnt + 1 = 1000
    · rw [hregs, e]
      exact ⟨hi, hrun, hclose, onTick_publishes hcleared hclose⟩
    · have hkept := onTick_reportRegs_of_not_closing Config.params hcleared hclose
      rw [← e, ← hregs] at hkept
      exact absurd (published_eq_of_report hkept) hnotkept

/-- Settles O41: only a tick on the 1000th sample publishes, and the 999 samples before it are covered by the
evaluations so far and by the cycle in progress, which is at most 199 ticks long. -/
theorem closingWindowHoldsFiveEvaluations : Obligations.ClosingWindowHoldsFiveEvaluations := by
  rintro s t hwf ⟨hcovered, -⟩ hexec hseq
  obtain ⟨-, -, hclose, -⟩ := publishedValuesChangeInOneStep .dsp s t nofun hexec (.inr (.inr (.inr hseq)))
  have hperiod := loopPeriod_le hwf
  have hbelow := hwf.tickCnt_lt
  have hcur : s.regs.curCnt.toNat = 999 := by
    have hopen := hwf.curCnt_lt
    bv_omega
  split_ifs with hdue
  · omega
  · have hnotdue : s.regs.tickCnt.toNat + 1 ≠ s.regs.loopPeriod.toNat := fun h => hdue (by bv_omega)
    omega

end Sys2Proof.Proofs
end

section
/-! PROOFS. Host accesses that repeat (R108), STATE in STATUS (R36), and the closed forms of the controller (R244) and
of the estimator (R207). -/

namespace Sys2Proof.Proofs

open Sys2Proof.Machine Sys2Proof.Claims

/-! ### A repeated write changes nothing more (R108) -/

/-- After a start RUN is 1 and after a stop it is 0, so that the same write is no change of RUN. -/
theorem writeCtrl_idempotent (d : HostWord) (r : Regs) : writeCtrl d (writeCtrl d r) = writeCtrl d r := by
  have hstart : (start r).run = true := rfl
  have hstop : (stop r).run = false := rfl
  cases hrun : r.run <;> cases hbit : dataBit0 d <;> simp [writeCtrl, hrun, hbit, hstart, hstop]

theorem writeStatus_idempotent (d : HostWord) (r : Regs) : writeStatus d (writeStatus d r) = writeStatus d r := by
  simp only [writeStatus_eq]
  split_ifs <;> rfl

theorem writePwmPeriod_idempotent (d : HostWord) (r : Regs) :
    writePwmPeriod d (writePwmPeriod d r) = writePwmPeriod d r := by
  simp only [writePwmPeriod_eq]
  split_ifs <;> rfl

theorem writeIrqOvr_idempotent (d : HostWord) (r : Regs) : writeIrqOvr d (writeIrqOvr d r) = writeIrqOvr d r := by
  simp only [writeIrqOvr, BitVec.and_assoc, BitVec.and_self]

theorem writeWindow_idempotent (o : Offset) (d : HostWord) (r : Regs) :
    writeWindow o d (writeWindow o d r) = writeWindow o d r := by
  cases h : writableOffsets.contains o with
  | false => simp only [Laws.writeWindow_of_not_writable h]
  | true =>
    have hmem : o ∈ writableOffsets := by simpa using h
    simp only [writableOffsets, List.mem_cons, List.not_mem_nil, or_false] at hmem
    obtain rfl | rfl | rfl | rfl | rfl | rfl | rfl := hmem
    · exact writeCtrl_idempotent d r
    · exact writeStatus_idempotent d r
    · rfl
    · exact writePwmPeriod_idempotent d r
    · rfl
    · rfl
    · exact writeIrqOvr_idempotent d r

/-- A second completion with the registers of the first is the first. -/
theorem next_complete_of_idempotent {f : Regs → Regs} {s : State} (h : f (f s.regs) = f s.regs) :
    (.next (complete (complete s (f s.regs)) (f (complete s (f s.regs)).regs)) : Result) =
      .next (complete s (f s.regs)) := by
  rw [Laws.complete_regs, h]
  rfl

/-- Settles O48: an access fails its check twice, reads the same registers twice, or performs an idempotent write. -/
theorem hostAccessesAreIdempotent : Obligations.HostAccessesAreIdempotent := by
  intro i s hhost
  cases i with
  | rd o =>
    cases hcheck : checkAccess o with
    | none => exact ⟨_, exec_rd_of_checked hcheck s, exec_rd_of_checked hcheck _⟩
    | some reason => exact ⟨_, exec_rd_of_busError hcheck s, exec_rd_of_busError hcheck _⟩
  | wr o d =>
    cases hcheck : checkAccess o with
    | none =>
      refine ⟨_, exec_wr_of_checked hcheck d s, (exec_wr_of_checked hcheck d _).trans ?_⟩
      exact next_complete_of_idempotent (writeWindow_idempotent o d s.regs)
    | some reason => exact ⟨_, exec_wr_of_busError hcheck d s, exec_wr_of_busError hcheck d _⟩
  | wrCtrl d => exact ⟨_, exec_wrCtrl d s, next_complete_of_idempotent (writeCtrl_idempotent d s.regs)⟩
  | wrStatus d => exact ⟨_, exec_wrStatus d s, next_complete_of_idempotent (writeStatus_idempotent d s.regs)⟩
  | wrPwmPeriod d => exact ⟨_, exec_wrPwmPeriod d s, next_complete_of_idempotent (writePwmPeriod_idempotent d s.regs)⟩
  | wrIrqOvr d => exact ⟨_, exec_wrIrqOvr d s, next_complete_of_idempotent (writeIrqOvr_idempotent d s.regs)⟩
  | wrSetpoint | wrStallLimit | wrIrqEn => exact ⟨_, rfl, rfl⟩
  | evTick | evPulse | evButton | evPtClk | evPwmClk | dsp | rst => cases hhost

/-! ### STATE in STATUS (R36) -/

/-- The other fields of STATUS have places that are multiples of 4. -/
theorem readReg_status_mod_four (r : Regs) : (readReg r .status).toNat % 4 = stateNumber r.state := by
  have hstate : stateNumber r.state < 3 := by cases r.state <;> decide
  rw [readReg_status, BitVec.toNat_ofNat]
  omega

/-- Settles O49: STATUS shows the number of STATE, which a well-formed state ties to RUN. -/
theorem statusNeverShowsEvaluating : Obligations.StatusNeverShowsEvaluating := by
  intro s hwf
  refine ⟨_, exec_rd_regOffset .status s, ?_⟩
  rw [readReg_status_mod_four, hwf.state_eq]
  split_ifs <;> rfl

/-! ### The controller without clamping (R244) -/

section

variable {p : Params} {r : Regs}

/-- The clamp leaves a sum within the bounds as it is. -/
theorem integrate_of_mem {err x : ℚ} (hround : p.numRound = id) (hlow : p.iMin ≤ x + err) (hhigh : x + err ≤ p.iMax) :
    integrate p err x = x + err := by
  rw [integrate_eq_max_min, hround, id, min_eq_right hhigh, max_eq_right hlow]

theorem pidUpdate_of_mem {err : ℚ} (hround : p.numRound = id) (hlow : p.iMin ≤ r.iState + err)
    (hhigh : r.iState + err ≤ p.iMax) :
    pidUpdate p err r = (p.pGain * err + p.iGain * (r.iState + err), { r with iState := r.iState + err }) := by
  rw [pidUpdate_eq, integrate_of_mem hround hlow hhigh]

/-- No running sum of the errors, from the integrator on, leaves its bounds. -/
def SumsInBounds (p : Params) (errs : List ℚ) (x : ℚ) : Prop :=
  ∀ k ≤ errs.length, p.iMin ≤ x + (errs.take k).sum ∧ x + (errs.take k).sum ≤ p.iMax

theorem SumsInBounds.head {e x : ℚ} {es : List ℚ} (h : SumsInBounds p (e :: es) x) :
    p.iMin ≤ x + e ∧ x + e ≤ p.iMax := by
  simpa using h 1 (by simp)

theorem SumsInBounds.tail {e x : ℚ} {es : List ℚ} (h : SumsInBounds p (e :: es) x) :
    SumsInBounds p es (x + e) := by
  intro k hk
  have hnext := h (k + 1) (Nat.succ_le_succ hk)
  rwa [List.take_succ_cons, List.sum_cons, ← add_assoc] at hnext

theorem pidRun_of_sumsInBounds (hround : p.numRound = id) (errs : List ℚ) (last out : ℚ)
    (h : SumsInBounds p (errs ++ [last]) r.iState) :
    (pidRun p (errs ++ [last]) (out, r)).2.iState = r.iState + (errs ++ [last]).sum ∧
      (pidRun p (errs ++ [last]) (out, r)).1 = p.pGain * last + p.iGain * (r.iState + (errs ++ [last]).sum) := by
  induction errs generalizing r out with
  | nil =>
    obtain ⟨hlow, hhigh⟩ := SumsInBounds.head h
    rw [List.nil_append, pidRun, pidUpdate_of_mem hround hlow hhigh, List.sum_singleton]
    exact ⟨rfl, rfl⟩
  | cons e es ih =>
    obtain ⟨hlow, hhigh⟩ := SumsInBounds.head h
    have htail := SumsInBounds.tail h
    rw [List.cons_append, pidRun, pidUpdate_of_mem hround hlow hhigh, List.sum_cons, ← add_assoc]
    exact ih _ htail

end

/-- Settles O56: each update adds its error to the integrator, by induction on the errors before the last. -/
theorem unclampedIntegratorHoldsTheSumOfErrors : Obligations.UnclampedIntegratorHoldsTheSumOfErrors := by
  intro p errs last out r hround hbounds
  exact pidRun_of_sumsInBounds hround errs last out fun k hk => hbounds k (by simpa using hk)

/-! ### Estimates without rounding (R206, R207) -/

section

variable {p : Params} {r : Regs} (period : BitVec 16)

theorem rpmFinalize_eq_of_exact (hround : p.numRound = id) (hscale : p.rpmScaleMode = .exact) :
    rpmFinalize p period r =
      (1000 / period.toNat * pulseAccumulator p r, { r with residue := -timerFraction p r, pulseCnt := 0 }) := by
  rw [rpmFinalize, rpmScale_eq, if_pos hscale]
  simp only [rnd, hround, id]

/-- The fraction added to one estimate is taken from the next, so that in a sum the inner ones cancel. -/
theorem sum_estimates (hround : p.numRound = id) (hmode : p.rpmFractionMode = .addAndCarry)
    (hscale : p.rpmScaleMode = .exact) (found : List (BitVec 32 × BitVec 32)) (last : BitVec 32 × BitVec 32) :
    (estimates p period (found ++ [last]) r).sum =
      1000 / period.toNat * ((((found ++ [last]).map (fun x => (x.1.toNat : ℚ))).sum + r.residue) +
        ((p.ptPeriod.toNat : ℚ) - last.2.toNat) / p.ptPeriod.toNat) := by
  induction found generalizing r with
  | nil =>
    simp only [List.nil_append, estimates, rpmFinalize_eq_of_exact period hround hscale, pulseAccumulator_eq,
      if_pos hmode, timerFraction, List.sum_singleton, List.map_cons, List.map_nil]
  | cons x xs ih =>
    simp only [List.cons_append, estimates, List.sum_cons, List.map_cons, ih,
      rpmFinalize_eq_of_exact period hround hscale, pulseAccumulator_eq, if_pos hmode, timerFraction]
    ring

end

/-- Settles O57: by induction on the finalisations before the last, each with its residue from the one before it. -/
theorem interpolatedEstimatesTelescope : Obligations.InterpolatedEstimatesTelescope := by
  intro p period found last r hround hmode hscale
  exact sum_estimates period hround hmode hscale found last

/-- Settles O58: the estimate is the residue scaled, and the new residue is the negation of a fraction in [0, 1). -/
theorem estimateWithoutPulsesIsNotPositive : Obligations.EstimateWithoutPulsesIsNotPositive := by
  intro p period r hround hmode hscale hperiod hpulses hlow hhigh hremain hremain'
  obtain ⟨hfraction0, hfraction1⟩ := Laws.timerFraction_mem hremain hremain'
  have hscaled : (0 : ℚ) < 1000 / period.toNat := by positivity
  have haccumulator : pulseAccumulator p r = r.residue := by
    rw [pulseAccumulator_eq, hpulses, hmode]
    simp
  rw [rpmFinalize_eq_of_exact period hround hscale, haccumulator]
  refine ⟨by nlinarith, by nlinarith, ?_, ?_⟩
  · change -1 < -timerFraction p r
    linarith
  · change -timerFraction p r ≤ 0
    linarith

end Sys2Proof.Proofs
end

section
/-! PROOFS. Runs of ticks on the eager schedule (R347): each tick with its dispatch is one call of the tick handler, so
that a window sums its samples until it closes (R221, R222, R306) and a cycle counts its ticks until it ends in an
evaluation (R301). -/

namespace Sys2Proof.Proofs

open Sys2Proof.Machine Sys2Proof.Claims

/-! ### A request and its dispatch step (R345, R365) -/

section

variable {p : Params} {r : Regs} {src : Source}

theorem setPending_of_none_pending (h : r.irqPend = 0) : setPending src r = { r with irqPend := sourceBit src } := by
  have hfree : ¬ pending src r = true := by
    rw [pending, h]
    exact ne_of_eq_of_ne BitVec.getLsbD_zero nofun
  rw [setPending, if_neg hfree, h]
  exact congrArg (fun x : BitVec 4 => { r with irqPend := x }) BitVec.zero_or

theorem select_setPending (h : r.irqPend = 0) (hen : enabled src r = true) : select (setPending src r) = some src := by
  have hbit : ∀ en : BitVec 4,
      en.getLsbD (sourceIndex src) = true → lowestBit (sourceBit src &&& en) = sourceBit src := by
    cases src <;> decide
  rw [setPending_of_none_pending h]
  exact select_of_lowestBit (hbit r.irqEn hen)

theorem clearPending_setPending (h : r.irqPend = 0) : clearPending src (setPending src r) = r := by
  have hcleared : sourceBit src &&& ~~~ sourceBit src = r.irqPend := by
    rw [h]
    cases src <;> rfl
  rw [setPending_of_none_pending h]
  exact congrArg (fun x : BitVec 4 => { r with irqPend := x }) hcleared

/-- Where nothing else waits, the dispatch step after a request runs the handler as if the request had called it. -/
theorem dispatchStep_setPending (h : r.irqPend = 0) (hen : enabled src r = true) :
    dispatchStep p (setPending src r) = handler p src r := by
  rw [dispatchStep_of_select_some (select_setPending h hen), clearPending_setPending h]

end

/-! ### A tick and its dispatch step -/

/-- The loop runs, nothing waits, and a tick that comes is taken at once. -/
structure TickReady (r : Regs) : Prop where
  run : r.run = true
  irqPend : r.irqPend = 0
  irqEn : r.irqEn.getLsbD 0 = true

/-- The registers with a new sample latched (R330). -/
def latch (code : AdcCode) (r : Regs) : Regs := { r with adcLatch := code }

@[simp] theorem latch_curCnt (code : AdcCode) (r : Regs) : (latch code r).curCnt = r.curCnt := rfl

section

variable {p : Params} {r r' : Regs}

/-- The tick handler on a new sample. -/
def tickOn (p : Params) (r : Regs) (code : AdcCode) : Regs := onTick p (latch code r)

theorem dispatchStep_tickEvent (h : TickReady r) (p : Params) (code : AdcCode) :
    dispatchStep p (tickEvent code r) = tickOn p r code := by
  have hevent : tickEvent code r = setPending .tick (latch code r) := if_pos h.run
  rw [hevent]
  exact dispatchStep_setPending (r := latch code r) h.irqPend h.irqEn

theorem tickOn_ready (h : TickReady r) (p : Params) (code : AdcCode) : TickReady (tickOn p r code) := by
  obtain ⟨hpend, hen, -⟩ := Laws.handler_irq p .tick (latch code r)
  exact ⟨(onTick_run p _).trans h.run, hpend.trans h.irqPend, (congrArg (·.getLsbD 0) hen).trans h.irqEn⟩

/-! ### A list of ticks -/

/-- The tick handler on some samples, one after another. -/
def ticksOn (p : Params) (codes : List AdcCode) (r : Regs) : Regs := codes.foldl (tickOn p) r

theorem ticksOn_append_singleton (p : Params) (codes : List AdcCode) (code : AdcCode) (r : Regs) :
    ticksOn p (codes ++ [code]) r = tickOn p (ticksOn p codes r) code :=
  List.foldl_concat ..

theorem ticksOn_ready (h : TickReady r) (p : Params) (codes : List AdcCode) : TickReady (ticksOn p codes r) := by
  induction codes generalizing r with
  | nil => exact h
  | cons code codes ih => exact ih (tickOn_ready h p code)

/-- The operations whose words are `ticks codes`. -/
def tickOps (codes : List AdcCode) : List Instr := (codes.map (fun c => [.evTick c, .dsp])).flatten

theorem ticks_eq_map_encode (codes : List AdcCode) : ticks codes = (tickOps codes).map encode := by
  rw [ticks, tickOps, List.map_flatten, List.map_map]
  rfl

theorem length_tickOps (codes : List AdcCode) : (tickOps codes).length = 2 * codes.length := by
  rw [tickOps, List.length_flatten, List.map_map]
  simp [Function.comp_def, mul_comm]

theorem wellFormed_of_mem_tickOps {codes : List AdcCode} {i : Instr} (h : i ∈ tickOps codes) :
    i.wellFormed = true := by
  simp only [tickOps, List.mem_flatten, List.mem_map] at h
  obtain ⟨_, ⟨code, -, rfl⟩, hi⟩ := h
  simp only [List.mem_cons, List.not_mem_nil, or_false] at hi
  obtain rfl | rfl := hi <;> rfl

theorem regsAfterAll_tickOps (h : TickReady r) (p : Params) (codes : List AdcCode) :
    regsAfterAll p (tickOps codes) r = ticksOn p codes r := by
  induction codes generalizing r with
  | nil => rfl
  | cons code codes ih =>
    have hfirst : regsAfterAll p [.evTick code, .dsp] r = tickOn p r code := dispatchStep_tickEvent h p code
    have hsplit : tickOps (code :: codes) = [.evTick code, .dsp] ++ tickOps codes := rfl
    rw [hsplit, regsAfterAll_append, hfirst]
    exact ih (tickOn_ready h p code)

end

/-- A run over the words of some ticks, each followed by DSP, takes them all and calls the tick handler on each. -/
theorem run_ticks {s : State} {codes : List AdcCode} {rest : List Word} (h : TickReady s.regs)
    (hops : s.ops = ticks codes ++ rest) :
    ∃ t : State, Host.Core.run Sys2Proof.core (2 * codes.length) s = .next t ∧ t.ops = rest ∧
      t.regs = ticksOn Config.params codes s.regs := by
  rw [ticks_eq_map_encode] at hops
  obtain ⟨t, hrun, hrest, hregs⟩ := run_encoded (fun i => wellFormed_of_mem_tickOps) hops
  rw [length_tickOps] at hrun
  exact ⟨t, hrun, hrest, hregs.trans (regsAfterAll_tickOps h Config.params codes)⟩

/-! ### A window that stays open (R221, R310) -/

section

variable {p : Params} {codes : List AdcCode} {r r' : Regs}

/-- The registers that a close publishes. -/
structure PublishedRegs where
  pubRpm : ℤ
  pubCurr : ℚ
  pubCurrRaw : ℚ
  pubSeq : BitVec 32
  drdy : Bool

def publishedRegs (r : Regs) : PublishedRegs where
  pubRpm := r.pubRpm
  pubCurr := r.pubCurr
  pubCurrRaw := r.pubCurrRaw
  pubSeq := r.pubSeq
  drdy := r.drdy

/-- From `r` to `r'` the window has taken the samples and published nothing. -/
structure WindowTook (p : Params) (codes : List AdcCode) (r r' : Regs) : Prop where
  bounded : r'.CurSumBounded
  curCnt : r'.curCnt.toNat = r.curCnt.toNat + codes.length
  curSum : r'.curSum.toInt = r.curSum.toInt + sampleSum p codes
  published : publishedRegs r' = publishedRegs r

theorem sampleSum_append_singleton (p : Params) (codes : List AdcCode) (code : AdcCode) :
    sampleSum p (codes ++ [code]) = sampleSum p codes + ((code.toNat : ℤ) - p.adcOffset.toNat) := by
  simp [sampleSum]

/-- The evaluation touches neither the window nor what was published. -/
theorem evaluateIfDue_publishedRegs (p : Params) (r : Regs) : publishedRegs (evaluateIfDue p r) = publishedRegs r := by
  unfold evaluateIfDue
  split_ifs <;> rfl

theorem windowTook_snoc {code : AdcCode} (hrun : r'.run = true) (h : WindowTook p codes r r')
    (hopen : r'.curCnt.toNat + 1 < 1000) : WindowTook p (codes ++ [code]) r (tickOn p r' code) := by
  obtain ⟨hbounded, hcnt, hsum, hpublished⟩ := h
  have hlatched : Regs.CurSumBounded (latch code r') := hbounded
  have hroom : r'.curCnt.toNat < 1000 := by omega
  have hnotlast : r'.curCnt + 1 ≠ 1000 := by bv_omega
  have hreport : reportRegs (tickOn p r' code) = reportRegs (sampleTick p (latch code r')) :=
    onTick_reportRegs_of_not_closing p hrun hnotlast
  refine ⟨onTick_curSumBounded hrun hroom hlatched, ?_, ?_, ?_⟩
  · rw [show (tickOn p r' code).curCnt = _ from congrArg ReportRegs.curCnt hreport]
    have hcnt' := sampleTick_curCnt_toNat (p := p) (r := latch code r') hroom
    rw [List.length_append, List.length_singleton, ← add_assoc, ← hcnt]
    exact hcnt'
  · rw [show (tickOn p r' code).curSum = _ from congrArg ReportRegs.curSum hreport]
    have hsum' := sampleTick_curSum_toInt (p := p) hlatched hroom
    rw [sampleSum_append_singleton, ← add_assoc, ← hsum]
    exact hsum'
  · have hstillopen : (evaluateIfDue p (sampleTick p (latch code r'))).curCnt ≠ 1000 := by
      rw [evaluateIfDue_curCnt]
      exact hnotlast
    rw [tickOn, onTick_of_running (r := latch code r') p hrun, closeIfDue_of_not_due p hstillopen,
      evaluateIfDue_publishedRegs]
    exact hpublished

theorem windowTook_ticksOn (hready : TickReady r) (hbounded : r.CurSumBounded) (codes : List AdcCode)
    (hlength : r.curCnt.toNat + codes.length < 1000) : WindowTook p codes r (ticksOn p codes r) := by
  induction codes using List.reverseRecOn with
  | nil => exact ⟨hbounded, rfl, (add_zero _).symm, rfl⟩
  | append_singleton codes code ih =>
    rw [List.length_append, List.length_singleton] at hlength
    have htook := ih (by omega)
    rw [ticksOn_append_singleton]
    exact windowTook_snoc (ticksOn_ready hready p codes).run htook (by rw [htook.curCnt]; omega)

/-- The close publishes the sum that the window has with its last sample. -/
theorem tickOn_of_closing {code : AdcCode} (hrun : r.run = true) (hbounded : r.CurSumBounded)
    (hlast : r.curCnt + 1 = 1000) :
    ∃ x : Regs, tickOn p r code = closeWindow p x ∧ x.pubSeq = r.pubSeq ∧
      x.curSum.toInt = r.curSum.toInt + ((code.toNat : ℤ) - p.adcOffset.toNat) := by
  have hlatched : (latch code r).CurSumBounded := hbounded
  have hroom : (latch code r).curCnt.toNat < 1000 := by
    rw [latch_curCnt]
    bv_omega
  have hreport := evaluateIfDue_reportRegs p (sampleTick p (latch code r))
  refine ⟨_, onTick_of_closing p hrun hlast, congrArg ReportRegs.pubSeq hreport, ?_⟩
  exact (congrArg (fun w => BitVec.toInt (ReportRegs.curSum w)) hreport).trans (sampleTick_curSum_toInt hlatched hroom)

end

/-- Settles O51: up to the last tick the window takes its samples, and the 1000th closes it over their sum. -/
theorem thousandSamplesPublishTheirAverage : Obligations.ThousandSamplesPublishTheirAverage := by
  intro s codes rest hrun hpend hen hcnt hsum hlength hops
  have hready : TickReady s.regs := ⟨hrun, hpend, hen⟩
  have hbounded : s.regs.CurSumBounded := curSumBounded_of_zero hsum
  have hcnt0 : s.regs.curCnt.toNat = 0 := by rw [hcnt]; rfl
  have hsum0 : s.regs.curSum.toInt = 0 := by rw [hsum]; rfl
  obtain ⟨t, hruns, hrest, hregs⟩ := run_ticks hready hops
  refine ⟨t, hruns, hrest, ?_⟩
  rw [hregs]
  split_ifs with hopen
  · obtain ⟨-, hcnt', hsum', hpublished⟩ := windowTook_ticksOn (p := Config.params) hready hbounded codes (by omega)
    simp only [publishedRegs, PublishedRegs.mk.injEq] at hpublished
    obtain ⟨hrpm, hcurr, hraw, hseq, hdrdy⟩ := hpublished
    exact ⟨by omega, by omega, hseq, hraw, hcurr, hrpm, hdrdy⟩
  · obtain rfl | ⟨before, last, rfl⟩ := List.eq_nil_or_concat' codes
    · exact absurd (show ([] : List AdcCode).length < 1000 by decide) hopen
    rw [List.length_append, List.length_singleton] at hlength hopen
    obtain ⟨hbounded', hcnt', hsum', hpublished⟩ :=
      windowTook_ticksOn (p := Config.params) hready hbounded before (by omega)
    have hlast : (ticksOn Config.params before s.regs).curCnt + 1 = 1000 := by bv_omega
    obtain ⟨x, hclose, hseq, hsumx⟩ := tickOn_of_closing (p := Config.params) (code := last)
      (ticksOn_ready hready Config.params before).run hbounded' hlast
    have htotal : x.curSum.toInt = sampleSum Config.params (before ++ [last]) := by
      rw [hsumx, hsum', hsum0, zero_add, sampleSum_append_singleton]
    rw [ticksOn_append_singleton, hclose, ← htotal]
    refine ⟨rfl, rfl, ?_, rfl, rfl, rfl⟩
    exact congrArg (· + 1) (hseq.trans (congrArg PublishedRegs.pubSeq hpublished))

/-! ### A cycle that goes on, and its end (R301, R303) -/

section

variable {p : Params} {codes : List AdcCode} {code : AdcCode} {r r' : Regs}

/-- The registers that an evaluation reads or writes and that no other tick changes. -/
structure CycleRegs where
  setpoint : BitVec 16
  loopPeriod : BitVec 16
  pulseCnt : BitVec 32
  ptRemain : BitVec 32
  residue : ℚ
  measRpm : ℚ
  iState : ℚ
  pidOut : ℚ
  duty : BitVec 7

def cycleRegs (r : Regs) : CycleRegs where
  setpoint := r.setpoint
  loopPeriod := r.loopPeriod
  pulseCnt := r.pulseCnt
  ptRemain := r.ptRemain
  residue := r.residue
  measRpm := r.measRpm
  iState := r.iState
  pidOut := r.pidOut
  duty := r.duty

theorem closeIfDue_cycleRegs (p : Params) (r : Regs) : cycleRegs (closeIfDue p r) = cycleRegs r := by
  unfold closeIfDue
  split_ifs <;> rfl

theorem tickOn_cycleRegs (p : Params) (hrun : r.run = true) (code : AdcCode) :
    cycleRegs (tickOn p r code) = cycleRegs (evaluateIfDue p (sampleTick p (latch code r))) := by
  rw [tickOn, onTick_of_running (r := latch code r) p hrun, closeIfDue_cycleRegs]

theorem tickOn_tickCnt (p : Params) (hrun : r.run = true) (code : AdcCode) :
    (tickOn p r code).tickCnt = (evaluateIfDue p (sampleTick p (latch code r))).tickCnt :=
  congrArg ControlRegs.tickCnt (onTick_controlRegs (r := latch code r) p hrun)

/-- From `r` to `r'` the cycle has counted the ticks and evaluated nothing. -/
structure CycleCounted (codes : List AdcCode) (r r' : Regs) : Prop where
  tickCnt : r'.tickCnt.toNat = r.tickCnt.toNat + codes.length
  cycle : cycleRegs r' = cycleRegs r

theorem cycleCounted_snoc (hrun : r'.run = true) (h : CycleCounted codes r r')
    (hbefore : r'.tickCnt.toNat + 1 < r'.loopPeriod.toNat) :
    CycleCounted (codes ++ [code]) r (tickOn p r' code) := by
  obtain ⟨hcount, hcycle⟩ := h
  have hnext : (r'.tickCnt + 1).toNat = r'.tickCnt.toNat + 1 := by bv_omega
  have hnotdue : (sampleTick p (latch code r')).tickCnt ≠ (sampleTick p (latch code r')).loopPeriod := by
    change r'.tickCnt + 1 ≠ r'.loopPeriod
    bv_omega
  refine ⟨?_, ?_⟩
  · rw [tickOn_tickCnt p hrun, evaluateIfDue_of_not_due p hnotdue, List.length_append, List.length_singleton,
      ← add_assoc, ← hcount]
    exact hnext
  · rw [tickOn_cycleRegs p hrun, evaluateIfDue_of_not_due p hnotdue]
    exact hcycle

theorem cycleCounted_ticksOn (hready : TickReady r) (codes : List AdcCode)
    (hlength : r.tickCnt.toNat + codes.length < r.loopPeriod.toNat) : CycleCounted codes r (ticksOn p codes r) := by
  induction codes using List.reverseRecOn with
  | nil => exact ⟨rfl, rfl⟩
  | append_singleton codes code ih =>
    rw [List.length_append, List.length_singleton] at hlength
    have hcounted := ih (by omega)
    have hperiod : (ticksOn p codes r).loopPeriod = r.loopPeriod := congrArg CycleRegs.loopPeriod hcounted.cycle
    rw [ticksOn_append_singleton]
    exact cycleCounted_snoc (ticksOn_ready hready p codes).run hcounted (by rw [hperiod, hcounted.tickCnt]; omega)

/-- An evaluation depends on the registers of the cycle alone, but for the stall flag that DUTY asks for. -/
theorem evaluated_congr (p : Params) (h : cycleRegs r' = cycleRegs r) :
    (evaluated p r').loopPeriod = (evaluated p r).loopPeriod ∧ (evaluated p r').measRpm = (evaluated p r).measRpm ∧
      (evaluated p r').iState = (evaluated p r).iState ∧ (evaluated p r').pidOut = (evaluated p r).pidOut := by
  simp only [cycleRegs, CycleRegs.mk.injEq] at h
  obtain ⟨hsetpoint, hperiod, hpulses, hremain, hresidue, -, hi, -, -⟩ := h
  simp only [evaluated, hsetpoint, hperiod, hpulses, hremain, hresidue, hi, and_self]

/-- The tick on which TICK_CNT reaches LOOP_PERIOD evaluates. -/
theorem tickOn_of_due (hrun : r.run = true) (hdue : r.tickCnt + 1 = r.loopPeriod) :
    (tickOn p r code).tickCnt = 0 ∧
      cycleRegs (tickOn p r code) = cycleRegs (evaluated p (sampleTick p (latch code r))) := by
  have hevaluates : evaluateIfDue p (sampleTick p (latch code r)) = evaluated p (sampleTick p (latch code r)) := by
    rw [evaluateIfDue_of_due p hdue, evaluate_eq_evaluated]
  rw [tickOn_tickCnt p hrun, tickOn_cycleRegs p hrun, hevaluates]
  exact ⟨rfl, rfl⟩

end

/-- Settles O52: before the last tick the cycle only counts, so that the evaluation on the last one finds the registers
that it depends on as they were at the start. -/
theorem evaluationFallsOnTheLoopPeriodTick : Obligations.EvaluationFallsOnTheLoopPeriodTick := by
  intro s codes rest c period hrun hpend hen hstart hlength hops
  have hready : TickReady s.regs := ⟨hrun, hpend, hen⟩
  obtain ⟨t, hruns, hrest, hregs⟩ := run_ticks hready hops
  refine ⟨t, hruns, hrest, ?_⟩
  rw [hregs]
  split_ifs with hbefore
  · obtain ⟨hcount, hcycle⟩ := cycleCounted_ticksOn (p := Config.params) hready codes hbefore
    simp only [cycleRegs, CycleRegs.mk.injEq] at hcycle
    obtain ⟨-, hperiod, hpulses, -, -, hrpm, hi, hpid, hduty⟩ := hcycle
    exact ⟨hcount, hperiod, hrpm, hi, hpid, hduty, hpulses⟩
  · obtain rfl | ⟨before, last, rfl⟩ := List.eq_nil_or_concat' codes
    · exact absurd hstart hbefore
    rw [List.length_append, List.length_singleton] at hlength hbefore
    obtain ⟨hcount, hcycle⟩ := cycleCounted_ticksOn (p := Config.params) hready before (by omega)
    have hperiod : (ticksOn Config.params before s.regs).loopPeriod = s.regs.loopPeriod :=
      congrArg CycleRegs.loopPeriod hcycle
    have hdue : (ticksOn Config.params before s.regs).tickCnt + 1 =
        (ticksOn Config.params before s.regs).loopPeriod := by
      rw [hperiod]
      bv_omega
    obtain ⟨htick, hlast⟩ := tickOn_of_due (p := Config.params) (code := last)
      (ticksOn_ready hready Config.params before).run hdue
    obtain ⟨hnext, hrpm, hi, hpid⟩ := evaluated_congr (r := s.regs)
      (r' := sampleTick Config.params (latch last (ticksOn Config.params before s.regs))) Config.params hcycle
    rw [ticksOn_append_singleton]
    exact ⟨htick, (congrArg CycleRegs.loopPeriod hlast).trans hnext, congrArg CycleRegs.pulseCnt hlast,
      (congrArg CycleRegs.measRpm hlast).trans hrpm, (congrArg CycleRegs.iState hlast).trans hi,
      (congrArg CycleRegs.pidOut hlast).trans hpid⟩

end Sys2Proof.Proofs
end

section
/-! PROOFS. The PWM waveform on the eager schedule (R282): the timer counts a phase down, its expiry flips the phase,
and an on phase with the off phase after it is one period. -/

namespace Sys2Proof.Proofs

open Sys2Proof.Machine Sys2Proof.Claims

/-! ### A PWM clock and its dispatch step -/

/-- The PWM generator runs at a duty that is neither 0 nor 100, nothing waits, and an expiry is taken at once. -/
structure PwmReady (r : Regs) : Prop where
  run : r.run = true
  running : r.pwmRunning = true
  irqPend : r.irqPend = 0
  irqEn : r.irqEn.getLsbD 1 = true
  period : 1 ≤ r.pwmPeriod.toNat
  duty_ge : 1 ≤ r.duty.toNat
  duty_le : r.duty.toNat ≤ 99

/-- One PWM clock with the dispatch step after it. -/
def pwmTick (p : Params) (r : Regs) : Regs := dispatchStep p (pwmClock r)

/-- The registers with another count in the PWM timer. -/
def withPwmCount (count : BitVec 32) (r : Regs) : Regs := { r with pwmCount := count }

/-- The registers at the start of a phase: the line and the phase flag, and the timer armed for `n` clocks (R276). -/
def phaseStart (on : Bool) (n : ℕ) (r : Regs) : Regs :=
  { r with
    pwmLine := on, pwmPhaseOn := on, pwmReload := BitVec.ofNat 32 n, pwmCount := BitVec.ofNat 32 n, pwmRunning := true }

/-- The clocks of a phase (R276). -/
def phaseLength (on : Bool) (r : Regs) : ℕ :=
  if on then r.pwmPeriod.toNat * r.duty.toNat else r.pwmPeriod.toNat * (100 - r.duty.toNat)

section

variable {p : Params} {r : Regs}

theorem withPwmCount_ready (h : PwmReady r) (count : BitVec 32) : PwmReady (withPwmCount count r) :=
  { h with }

theorem phaseStart_ready (h : PwmReady r) (on : Bool) (n : ℕ) : PwmReady (phaseStart on n r) :=
  { h with running := rfl }

theorem phaseLength_pos (h : PwmReady r) (on : Bool) : 0 < phaseLength on r := by
  have hlow := h.duty_ge
  have hhigh := h.duty_le
  unfold phaseLength
  split_ifs
  · exact Nat.mul_pos h.period hlow
  · exact Nat.mul_pos h.period (by omega)

theorem phaseLength_add (h : PwmReady r) : phaseLength true r + phaseLength false r = r.pwmPeriod.toNat * 100 := by
  have hhigh := h.duty_le
  have hsplit : r.duty.toNat + (100 - r.duty.toNat) = 100 := by omega
  exact (Nat.mul_add _ _ _).symm.trans (congrArg _ hsplit)

/-- Both phases together fit the 32-bit timer. -/
theorem phaseLength_lt (h : PwmReady r) (on : Bool) : phaseLength on r < 2 ^ 32 := by
  have hsum := phaseLength_add h
  have hperiod := r.pwmPeriod.isLt
  cases on <;> omega

/-- A clock that does not end the phase takes one off the count. -/
theorem pwmTick_of_counting (h : PwmReady r) (hcount : 1 < r.pwmCount.toNat) :
    pwmTick p r = withPwmCount (BitVec.ofNat 32 (r.pwmCount.toNat - 1)) r := by
  have hidle (count : BitVec 32) : ready (withPwmCount count r) = 0 := by
    change r.irqPend &&& r.irqEn = 0
    rw [h.irqPend]
    exact BitVec.zero_and
  rcases Laws.pwmClock_cases r with ⟨hstopped, -⟩ | ⟨-, -, e⟩ | ⟨-, hexpired, -⟩
  · exact absurd (h.running.symm.trans hstopped) nofun
  · rw [sub_one_eq_ofNat hcount] at e
    rw [pwmTick, e]
    exact dispatchStep_of_select_none (select_eq_none_of_ready (hidle _)) p
  · omega

/-- The handler of PWM starts the other phase. -/
theorem onPeriodElapsed_of_ready (h : PwmReady r) :
    onPeriodElapsed r = phaseStart (!r.pwmPhaseOn) (phaseLength (!r.pwmPhaseOn) r) r := by
  have hlow := h.duty_ge
  have hhigh := h.duty_le
  rw [onPeriodElapsed_eq_phaseFlipped h.run h.period (by omega), phaseFlipped, if_neg (by omega), if_neg (by omega)]
  unfold phaseStart phaseLength
  cases r.pwmPhaseOn <;> rfl

/-- The clock that ends a phase reloads the timer, and its dispatch step starts the other phase. -/
theorem pwmTick_of_expiring (h : PwmReady r) (hcount : r.pwmCount.toNat ≤ 1) :
    pwmTick p r = phaseStart (!r.pwmPhaseOn) (phaseLength (!r.pwmPhaseOn) r) r := by
  have hreloaded := withPwmCount_ready h r.pwmReload
  have hclock : pwmClock r = setPending .pwm (withPwmCount r.pwmReload r) := by
    rcases Laws.pwmClock_cases r with ⟨hstopped, -⟩ | ⟨-, hcounting, -⟩ | ⟨-, -, e⟩
    · exact absurd (h.running.symm.trans hstopped) nofun
    · omega
    · exact e
  rw [pwmTick, hclock, dispatchStep_setPending (src := .pwm) hreloaded.irqPend hreloaded.irqEn]
  exact onPeriodElapsed_of_ready hreloaded

/-! ### A phase -/

theorem pwmTick_iterate_of_counting (h : PwmReady r) {n : ℕ} (hn : n < r.pwmCount.toNat) :
    (pwmTick p)^[n] r = withPwmCount (BitVec.ofNat 32 (r.pwmCount.toNat - n)) r := by
  induction n with
  | zero =>
    rw [Function.iterate_zero_apply, Nat.sub_zero, BitVec.ofNat_toNat, BitVec.setWidth_eq]
    rfl
  | succ n ih =>
    have hready := withPwmCount_ready h (BitVec.ofNat 32 (r.pwmCount.toNat - n))
    have hcount : (withPwmCount (BitVec.ofNat 32 (r.pwmCount.toNat - n)) r).pwmCount.toNat = r.pwmCount.toNat - n := by
      have hlt := r.pwmCount.isLt
      exact (BitVec.toNat_ofNat _ _).trans (Nat.mod_eq_of_lt (by omega))
    rw [Function.iterate_succ_apply', ih (by omega), pwmTick_of_counting hready (by omega), hcount]
    rfl

theorem pwmCount_phaseStart (h : PwmReady r) (on : Bool) :
    (phaseStart on (phaseLength on r) r).pwmCount.toNat = phaseLength on r :=
  (BitVec.toNat_ofNat _ _).trans (Nat.mod_eq_of_lt (phaseLength_lt h on))

/-- During a phase the line stays as the phase drives it. -/
theorem pwmLine_in_phase (h : PwmReady r) (on : Bool) {n : ℕ} (hn : n < phaseLength on r) :
    ((pwmTick p)^[n] (phaseStart on (phaseLength on r) r)).pwmLine = on := by
  rw [pwmTick_iterate_of_counting (phaseStart_ready h on _) (by rwa [pwmCount_phaseStart h])]
  rfl

/-- The timer counts a phase down to 1, and the next clock starts the other phase. -/
theorem pwmTick_iterate_phase (h : PwmReady r) (on : Bool) :
    (pwmTick p)^[phaseLength on r] (phaseStart on (phaseLength on r) r) = phaseStart (!on) (phaseLength (!on) r) r := by
  have hstart := phaseStart_ready h on (phaseLength on r)
  have hcount := pwmCount_phaseStart h on
  obtain ⟨n, hn⟩ : ∃ n, phaseLength on r = n + 1 := Nat.exists_eq_succ_of_ne_zero (phaseLength_pos h on).ne'
  have hcounted : (pwmTick p)^[n] (phaseStart on (phaseLength on r) r) =
      withPwmCount (BitVec.ofNat 32 1) (phaseStart on (phaseLength on r) r) := by
    rw [pwmTick_iterate_of_counting hstart (by omega), hcount]
    congr 2
    omega
  have hexpiring := pwmTick_of_expiring (p := p) (withPwmCount_ready hstart (BitVec.ofNat 32 1)) (Nat.le_refl 1)
  calc (pwmTick p)^[phaseLength on r] (phaseStart on (phaseLength on r) r)
      = (pwmTick p)^[n + 1] (phaseStart on (phaseLength on r) r) := congrArg (fun k => (pwmTick p)^[k] _) hn
    _ = pwmTick p (withPwmCount (BitVec.ofNat 32 1) (phaseStart on (phaseLength on r) r)) := by
      rw [Function.iterate_succ_apply', hcounted]
    _ = phaseStart (!on) (phaseLength (!on) r) r := hexpiring

/-! ### A period: the on phase and the off phase after it (R282) -/

/-- A state with the timer at the full length of its on phase is at the start of that phase. -/
theorem eq_phaseStart (h : PwmReady r) (hphase : r.pwmPhaseOn = true) (hline : r.pwmLine = true)
    (hreload : r.pwmReload.toNat = phaseLength true r) (hcount : r.pwmCount.toNat = phaseLength true r) :
    phaseStart true (phaseLength true r) r = r := by
  have hreload' : BitVec.ofNat 32 (phaseLength true r) = r.pwmReload := by
    rw [← hreload, BitVec.ofNat_toNat, BitVec.setWidth_eq]
  have hcount' : r.pwmCount = r.pwmReload := BitVec.eq_of_toNat_eq (hcount.trans hreload.symm)
  have hrunning := h.running
  rw [phaseStart, hreload']
  cases r
  simp_all

theorem pwmTick_iterate_second_phase (h : PwmReady r) (n : ℕ) :
    (pwmTick p)^[phaseLength true r + n] (phaseStart true (phaseLength true r) r) =
      (pwmTick p)^[n] (phaseStart false (phaseLength false r) r) := by
  rw [add_comm, Function.iterate_add_apply, pwmTick_iterate_phase h true]
  rfl

theorem pwmTick_iterate_period (h : PwmReady r) :
    (pwmTick p)^[r.pwmPeriod.toNat * 100] (phaseStart true (phaseLength true r) r) =
      phaseStart true (phaseLength true r) r := by
  rw [← phaseLength_add h, pwmTick_iterate_second_phase h, pwmTick_iterate_phase h false]
  rfl

theorem pwmLine_in_period (h : PwmReady r) {n : ℕ} (hn : n < r.pwmPeriod.toNat * 100) :
    ((pwmTick p)^[n] (phaseStart true (phaseLength true r) r)).pwmLine = decide (n < phaseLength true r) := by
  have hsum := phaseLength_add h
  by_cases hon : n < phaseLength true r
  · rw [pwmLine_in_phase h true hon, decide_eq_true hon]
  · obtain ⟨k, rfl⟩ := Nat.exists_eq_add_of_le (not_lt.1 hon)
    rw [pwmTick_iterate_second_phase h, pwmLine_in_phase h false (by omega), decide_eq_false hon]

/-! ### Runs of PWM clocks -/

/-- The operations whose words are `pwmClocks n`. -/
def pwmOps (n : ℕ) : List Instr := (List.replicate n [.evPwmClk, .dsp]).flatten

theorem pwmClocks_eq_map_encode (n : ℕ) : pwmClocks n = (pwmOps n).map encode := by
  rw [pwmClocks, pwmOps, List.map_flatten, List.map_replicate]
  rfl

theorem length_pwmOps (n : ℕ) : (pwmOps n).length = 2 * n := by
  rw [pwmOps, List.length_flatten, List.map_replicate, List.sum_replicate]
  exact mul_comm n 2

theorem wellFormed_of_mem_pwmOps {n : ℕ} {i : Instr} (h : i ∈ pwmOps n) : i.wellFormed = true := by
  simp only [pwmOps, List.mem_flatten, List.mem_replicate] at h
  obtain ⟨_, ⟨-, rfl⟩, hi⟩ := h
  simp only [List.mem_cons, List.not_mem_nil, or_false] at hi
  obtain rfl | rfl := hi <;> rfl

theorem regsAfterAll_pwmOps (p : Params) (n : ℕ) (r : Regs) : regsAfterAll p (pwmOps n) r = (pwmTick p)^[n] r := by
  induction n generalizing r with
  | zero => rfl
  | succ n ih =>
    have hsplit : pwmOps (n + 1) = [.evPwmClk, .dsp] ++ pwmOps n := rfl
    rw [hsplit, regsAfterAll_append, ih, Function.iterate_succ_apply]
    rfl

end

theorem run_pwmClocks {s : State} {n : ℕ} {rest : List Word} (hops : s.ops = pwmClocks n ++ rest) :
    ∃ t : State, Host.Core.run Sys2Proof.core (2 * n) s = .next t ∧ t.ops = rest ∧
      t.regs = (pwmTick Config.params)^[n] s.regs := by
  rw [pwmClocks_eq_map_encode] at hops
  obtain ⟨t, hrun, hrest, hregs⟩ := run_encoded (fun i => wellFormed_of_mem_pwmOps) hops
  rw [length_pwmOps] at hrun
  exact ⟨t, hrun, hrest, hregs.trans (regsAfterAll_pwmOps Config.params n s.regs)⟩

/-- Settles O50: the on phase lasts T*p clocks and the off phase T*(100 - p), whose end is the start of the on phase. -/
theorem pwmWaveformHasTheDutyRatio : Obligations.PwmWaveformHasTheDutyRatio := by
  intro s n rest r high cycle hwf hrun hrunning hpend hen hduty0 hduty99 hphase hline hreload hcount hn hops
  have hready : PwmReady r := ⟨hrun, hrunning, hpend, hen, hwf.pwmPeriod_ge, hduty0, hduty99⟩
  have hstart : phaseStart true (phaseLength true r) r = r := eq_phaseStart hready hphase hline hreload hcount
  obtain ⟨t, hruns, hrest, hregs⟩ := run_pwmClocks hops
  refine ⟨t, hruns, hrest, fun hinside => ?_, fun hwhole => ?_⟩
  · have hperiod := pwmLine_in_period (p := Config.params) hready hinside
    rw [hstart] at hperiod
    rw [hregs]
    exact hperiod
  · have hperiod := pwmTick_iterate_period (p := Config.params) hready
    rw [hstart] at hperiod
    rw [hregs, hwhole]
    exact hperiod

end Sys2Proof.Proofs
end
